-- ==== Sys2Proof/Word.lean ====
section
/-! DEFINITION. The bus word: every register of the block is read and written as 32 bits
(00_scope.md R7, 10_state.md R17). -/

namespace Sys2Proof

/-- One 32-bit word of the host bus; also one command word (30_encoding.md R68). -/
abbrev Word := BitVec 32

end Sys2Proof
end

