-- ==== Sys2Proof/Syntax.lean ====
section
/-! DEFINITION. The commands of the block, one constructor per row of spec/opcode_table.json
(30_encoding.md R71), and the names under which the decoder rejects a word (R72). -/

namespace Sys2Proof

/-- A command. PAD has the one operand of the encoding, the length N; every other operand is implicit (R70). -/
inductive Instr where
  /-- NOP, OP 0x0 (R109). -/
  | nop
  /-- CONFIGURE, OP 0x1 (R110). -/
  | configure
  /-- PAD N, OP 0x2 (R78): N is the number of valid bits staged in DATA (log 13). -/
  | pad (n : Nat)
  /-- ENCODE, OP 0x3 (R86). -/
  | encode
  /-- FRAME, OP 0x4 (R101). -/
  | frame
  /-- CORRUPT, OP 0x5 (R95). -/
  | corrupt
  /-- VERIFY, OP 0x6 (R102). -/
  | verify
  /-- RUN_CHUNK, OP 0x7 (R104). -/
  | runChunk
  /-- CLEAR_ERR, OP 0x8 (R112). -/
  | clearErr
  /-- SOFT_RESET, OP 0xF (R113). -/
  | softReset
  deriving DecidableEq, Repr

/-- Why a word is no command: the three `raise CmdError(CMD_ILLEGAL)` lines of R72, in their order. -/
inductive DecodeReject where
  /-- RSVD, bits [31:11], is not 0. -/
  | reservedBits
  /-- OP is one of 0x9 to 0xE. -/
  | reservedOpcode
  /-- N is not 0 and OP is not PAD. -/
  | strayLength
  deriving DecidableEq, Repr

end Sys2Proof
end

