-- ==== Sys2Proof/WellFormed.lean ====
section
/-! DEFINITION. Which terms of `Instr` stand for a command of the block: the operand N of PAD is a 7-bit field
(30_encoding.md R69, R70). -/

namespace Sys2Proof

/-- The operand fits its field. PAD 0 and PAD 65 to PAD 127 are well formed: they decode, and PAD's own rule
refuses them (R72). -/
def Instr.WellFormed : Instr → Bool
  | .nop => true
  | .configure => true
  | .pad n => decide (n < 2 ^ 7)
  | .encode => true
  | .frame => true
  | .corrupt => true
  | .verify => true
  | .runChunk => true
  | .clearErr => true
  | .softReset => true

end Sys2Proof
end

