-- ==== Sys2Proof/Decode.lean ====
section
/-! DEFINITION. The decoder of 30_encoding.md R72, total on every 32-bit word, and the encoder of R74. -/

namespace Sys2Proof

/-- OP, bits [3:0] (R69). -/
def opField (w : Word) : BitVec 4 := w.extractLsb' 0 4

/-- N, bits [10:4] (R69). -/
def nField (w : Word) : BitVec 7 := w.extractLsb' 4 7

/-- RSVD, bits [31:11] (R69). -/
def rsvdField (w : Word) : BitVec 21 := w.extractLsb' 11 21

/-- The opcode map (R71), with `n` the value of the N field; `none` for the reserved opcodes 0x9 to 0xE. -/
def instrOfOp (op n : Nat) : Option Instr :=
  match op with
  | 0x0 => some .nop
  | 0x1 => some .configure
  | 0x2 => some (.pad n)
  | 0x3 => some .encode
  | 0x4 => some .frame
  | 0x5 => some .corrupt
  | 0x6 => some .verify
  | 0x7 => some .runChunk
  | 0x8 => some .clearErr
  | 0xF => some .softReset
  | _ => none

/-- Decode a command word (R72): the reserved bits first, then the opcode, then the length field. -/
def decode (w : Word) : Except DecodeReject Instr :=
  if rsvdField w ≠ 0 then .error .reservedBits
  else
    match instrOfOp (opField w).toNat (nField w).toNat with
    | none => .error .reservedOpcode
    | some i => if opField w ≠ 0x2 ∧ nField w ≠ 0 then .error .strayLength else .ok i

/-- The opcode of each command (R71). -/
def opcodeOf : Instr → BitVec 4
  | .nop => 0x0
  | .configure => 0x1
  | .pad _ => 0x2
  | .encode => 0x3
  | .frame => 0x4
  | .corrupt => 0x5
  | .verify => 0x6
  | .runChunk => 0x7
  | .clearErr => 0x8
  | .softReset => 0xF

/-- The N field of each command: PAD's operand, and 0 for every other command (R70, R72). DESIGN CHOICE (log 18): R74
gives PAD a word for N in 0 to 127 only; a larger operand, which is not well formed, is taken modulo 128 here. -/
def lengthOf : Instr → BitVec 7
  | .nop => 0
  | .configure => 0
  | .pad n => BitVec.ofNat 7 n
  | .encode => 0
  | .frame => 0
  | .corrupt => 0
  | .verify => 0
  | .runChunk => 0
  | .clearErr => 0
  | .softReset => 0

/-- The command word of a well-formed command: RSVD, N, OP from the top (R69, R74). Of an ill-formed `pad n` it is the
word of `pad (n % 128)` (DESIGN CHOICE, log 18). -/
def encode (i : Instr) : Word := 0#21 ++ lengthOf i ++ opcodeOf i

/-- The command word that holds the low `nbits` bits of `w`; every bit above them is 0. A command is exactly one
32-bit word (R68), and bit 0 of the table's numbering is bit 0 of that word. -/
def wordOfBits (nbits w : Nat) : Word := BitVec.ofNat 32 (w % 2 ^ nbits)

/-- The host's view of the decoder: the command the word stands for, `none` where it is CMD_ILLEGAL. -/
def decodeTableWord (nbits w : Nat) : Option Instr :=
  match decode (wordOfBits nbits w) with
  | .ok i => some i
  | .error _ => none

end Sys2Proof
end

