-- ==== Sys2Proof/Config.lean ====
section
/-! DEFINITION. The implementation parameters of 00_scope.md R7. Every one but BASE_ADDR has a value fixed by the
spec; BASE_ADDR is left to the platform and is a constant without a body. -/

namespace Sys2Proof.Config

/-- K, the polynomial length in bits (R7). -/
abbrev polyBits : Nat := 9

/-- CHECK_BITS = K − 1 (R7). -/
abbrev checkBits : Nat := polyBits - 1

/-- MAX_CHUNK_BITS, the widest chunk the datapath holds (R7). -/
abbrev maxChunkBits : Nat := 64

/-- The scale of the flip threshold: p = T / 65536, so the largest legal T (R7, R30). -/
abbrev maxThresh : Nat := 65536

/-- The source's default polynomial "100000111" (R7, R28). -/
def defaultPoly : BitVec 9 := 0x107#9

/-- The source's default chunk size (R7, R29). -/
def defaultChunkBits : BitVec 7 := 64#7

/-- The source's default probability 0.1 as a threshold, 0x0199A (R7, R30). -/
def defaultPThresh : BitVec 17 := 6554#17

/-- The reset value of SEED and PRBS_STATE (R18, R31, R32). -/
def defaultSeed : Word := 1#32

/-- The size of the register window in bytes (R50). -/
abbrev windowBytes : Nat := 0x100

/-- BASE_ADDR / 0x100: the platform's choice, which the spec leaves open (R7, R50, decision D27).
DESIGN CHOICE (log 3): an uninterpreted constant, so that nothing can be proved of its value; safe. -/
opaque basePage : Nat

/-- BASE_ADDR, a multiple of 0x100 (R50). -/
def baseAddr : Nat := basePage * windowBytes

end Sys2Proof.Config
end

