-- ==== Sys2Proof/Machine/State.lean ====
section
/-! DEFINITION. The state of the machine: the block's registers (10_state.md R14, R18) and the host's side of the
bus, the reset state (R49), and the reasons a step can stop. -/

namespace Sys2Proof.Machine

/-- STATUS.FSM, the pipeline state of the current chunk (R27). Values 6 and 7 never occur, and the type has no
name for them (93_implementation_defined.md I7; log 7). -/
inductive Fsm where
  /-- No chunk in progress since the last CONFIGURE or reset. -/
  | idle
  /-- ENCODE done for the current chunk. -/
  | encoded
  /-- FRAME done. -/
  | framed
  /-- CORRUPT done. -/
  | channeled
  /-- VERIFY done, match = true. -/
  | matched
  /-- VERIFY done, match = false. -/
  | mismatched
  deriving DecidableEq, Repr

/-- STATUS.ERR_CAUSE (R26, 60_exceptions.md R115). The codes 0x6, 0x7 and 0xC to 0xF are never written, and the type
has no name for them (I7; log 7). -/
inductive ErrCause where
  /-- NONE: no error since the last clear. -/
  | none
  /-- CFG_CHUNK_ZERO: CHUNK_BITS = 0. -/
  | cfgChunkZero
  /-- CFG_CHUNK_TOO_LARGE: CHUNK_BITS > 64. -/
  | cfgChunkTooLarge
  /-- CFG_POLY_TOO_LONG: CHUNK_BITS = 1. -/
  | cfgPolyTooLong
  /-- CFG_POLY_MSB_ZERO: POLY[8] = 0. -/
  | cfgPolyMsbZero
  /-- CFG_PROB_RANGE: P_THRESH > 65536. -/
  | cfgProbRange
  /-- CMD_ILLEGAL: no command has this word. -/
  | cmdIllegal
  /-- CMD_NOT_CONFIGURED: a data command while CFG_VALID = 0. -/
  | cmdNotConfigured
  /-- CMD_BAD_LENGTH: PAD with N = 0 or N > c. -/
  | cmdBadLength
  /-- CMD_SEQUENCE: a pipeline command outside its "from" states. -/
  | cmdSequence
  deriving DecidableEq, Repr

/-- The block's whole state (R14): the registers of the register map (R18). ID is a constant, CMD holds no state,
and STATUS.MATCH is derived from `fsm` (R20, R21, R25). -/
structure Block where
  /-- POLY, the shadow polynomial (R28). -/
  poly : BitVec 9
  /-- CHUNK_BITS, the shadow chunk size (R29). -/
  chunkBits : BitVec 7
  /-- P_THRESH, the shadow flip threshold (R30). -/
  pThresh : BitVec 17
  /-- SEED, the shadow seed (R31). -/
  seed : Word
  /-- PRBS_STATE, the generator (R32). -/
  prbsState : Word
  /-- DATA, the staging register (R33). -/
  data : BitVec 64
  /-- TX_DATA, the chunk as transmitted (R34). -/
  txData : BitVec 64
  /-- CHECK, the check code of TX_DATA (R35). -/
  check : BitVec 8
  /-- TX_FRAME, the frame as transmitted (R36). -/
  txFrame : BitVec 72
  /-- RX_FRAME, the frame as received (R37). -/
  rxFrame : BitVec 72
  /-- RX_DATA, the received data part (R38). -/
  rxData : BitVec 64
  /-- RX_CHECK, the received check part (R39). -/
  rxCheck : BitVec 8
  /-- RECOMP, the recomputed check code (R40). -/
  recomp : BitVec 8
  /-- REC_INDEX, the burst index of the last record (R41). -/
  recIndex : Word
  /-- BURST_COUNT (R42). -/
  burstCount : Word
  /-- MATCH_COUNT (R43). -/
  matchCount : Word
  /-- MISMATCH_COUNT (R44). -/
  mismatchCount : Word
  /-- ACT_POLY, the active polynomial P (R45). -/
  actPoly : BitVec 9
  /-- ACT_CHUNK_BITS, the active chunk size c (R45). -/
  actChunkBits : BitVec 7
  /-- ACT_P_THRESH, the active flip threshold T (R45). -/
  actPThresh : BitVec 17
  /-- STATUS.CFG_VALID (R23). -/
  cfgValid : Bool
  /-- STATUS.ERR (R24). -/
  err : Bool
  /-- STATUS.ERR_CAUSE (R26). -/
  errCause : ErrCause
  /-- STATUS.FSM (R27). -/
  fsm : Fsm
  deriving DecidableEq, Repr

/-- The thirty registers of the register map (R18). -/
inductive RegName where
  | id
  | cmd
  | status
  | poly
  | chunkBits
  | pThresh
  | seed
  | prbsState
  | dataLo
  | dataHi
  | txDataLo
  | txDataHi
  | check
  | txFrame0
  | txFrame1
  | txFrame2
  | rxFrame0
  | rxFrame1
  | rxFrame2
  | rxDataLo
  | rxDataHi
  | rxCheck
  | recomp
  | recIndex
  | burstCount
  | matchCount
  | mismatchCount
  | actPoly
  | actChunkBits
  | actPThresh
  deriving DecidableEq, Repr

/-- The three access kinds of R17. -/
inductive AccessKind where
  /-- The host reads and writes the register. -/
  | rw
  /-- The host reads it; a write is ignored without error. -/
  | ro
  /-- CMD only: a write runs a command, a read returns 0. -/
  | wo
  deriving DecidableEq, Repr

/-- The sizes a host access can have on the bus (20_memory.md R51; log 5). -/
inductive AccessSize where
  | bits8
  | bits16
  | bits32
  | bits64
  deriving DecidableEq, Repr

/-- What the outside world can do to the block: one host access that reaches its window, as the `R off` and
`W off value` lines of R76 write it (log 3), or a hardware reset between two accesses (R129). -/
inductive HostEvent where
  /-- A read at a byte offset of the window. -/
  | read (off : BitVec 8) (size : AccessSize)
  /-- A write of `v` at a byte offset of the window. A write of another size than 32 bits is refused whatever it
  carries, so one word is enough (log 5). -/
  | write (off : BitVec 8) (size : AccessSize) (v : Word)
  /-- The hardware reset input, asserted and released between two accesses (R129). -/
  | hardwareReset
  /-- A host access made while hardware reset is asserted, which a platform must not make (R129, I10). -/
  | accessDuringReset
  deriving DecidableEq, Repr

/-- The state of the machine: the block, and the host's side of the bus. -/
structure State where
  /-- The block's registers, which are its whole state (R14). -/
  block : Block
  /-- MODEL'S OWN, DESIGN CHOICE (log 1): the host events still to come, oldest first. Safe: a claim about every
  state is a claim about every sequence of accesses. -/
  pending : List HostEvent
  /-- MODEL'S OWN, DESIGN CHOICE (log 2): the data the host's reads have returned, newest first. Safe: no step reads it. -/
  readLog : List Word
  deriving DecidableEq, Repr

/-- Why a step stops. -/
inductive Fault where
  /-- Raised by a host access that is not 32 bits wide, is misaligned, or is at an unmapped offset (R51, R52, R55):
  "A model treats a bus error as a fault of the host's access" (R53). Safe: the hardware goes on with its state
  unchanged, and the model says nothing about what follows. -/
  | busError
  /-- Raised by a host access while hardware reset is asserted: "not modelled. A platform must not make them"
  (I10, R129). Safe: the spec gives such an access no effect. -/
  | accessDuringReset
  deriving DecidableEq, Repr

/-- Why a step has no meaning. -/
inductive Refusal where
  /-- An arm of `exec` that has no meaning yet; no arm of this model is one, so nothing raises it. Safe. -/
  | notModelled (mnemonic : String)
  deriving DecidableEq, Repr

/-- The reset column of the register map (R18, R49, R130). -/
def Block.reset : Block where
  poly := Config.defaultPoly
  chunkBits := Config.defaultChunkBits
  pThresh := Config.defaultPThresh
  seed := Config.defaultSeed
  prbsState := Config.defaultSeed
  data := 0
  txData := 0
  check := 0
  txFrame := 0
  rxFrame := 0
  rxData := 0
  rxCheck := 0
  recomp := 0
  recIndex := 0
  burstCount := 0
  matchCount := 0
  mismatchCount := 0
  actPoly := Config.defaultPoly
  actChunkBits := Config.defaultChunkBits
  actPThresh := Config.defaultPThresh
  cfgValid := false
  err := false
  errCause := .none
  fsm := .idle

/-- The machine right after reset: the block in its reset state (R49), and a host that has made no access and plans
none (DESIGN CHOICE, log 1 and log 2). -/
def State.reset : State where
  block := Block.reset
  pending := []
  readLog := []

end Sys2Proof.Machine
end

