-- ==== Sys2Proof/Machine/Ops.lean ====
section
/-! DEFINITION. The operations the commands share: bit slices, the refusal of a command (60_exceptions.md R118), the
failure of CONFIGURE (45_control.md R111), the clearing of the error fields, and the checks in the order of R119.
The block has no trap entry and no return from one (R124): a refusal is its whole error mechanism, and CLEAR_ERR is
what undoes it. -/

namespace Sys2Proof.Machine

/-- `zext_w(v[n−1:0])`: the low `n` bits of `v`, zeros above them (00_scope.md R8). -/
def zextLow {w : Nat} (n : Nat) (v : BitVec w) : BitVec w := (v.setWidth n).setWidth w

/-- Act on the block and leave the host's side of the bus alone: only host accesses touch that (20_memory.md R50). -/
def State.onBlock (s : State) (f : Block → Block) : State := { s with block := f s.block }

/-- `raise CmdError(cause)` (R118): the error fields change and nothing else does. -/
def Block.raise (cause : ErrCause) (b : Block) : Block := { b with err := true, errCause := cause }

/-- `fail(cause)` (R111): the run ends, and the configuration, the data and the counters stay. -/
def Block.failConfigure (cause : ErrCause) (b : Block) : Block :=
  { b with cfgValid := false, err := true, errCause := cause, fsm := .idle }

/-- Clear ERR and ERR_CAUSE (R112, R122). -/
def Block.clearError (b : Block) : Block := { b with err := false, errCause := .none }

/-- The active chunk size c = ACT_CHUNK_BITS, as a number (10_state.md R45). -/
def Block.chunkSize (b : Block) : Nat := b.actChunkBits.toNat

/-- The frame length n = c + 8 (00_scope.md R7). -/
def Block.frameSize (b : Block) : Nat := b.chunkSize + Config.checkBits

/-- A data command runs only with a valid configuration (check 2 of R119, R23). -/
def Block.ifConfigured (body : Block → Block) (b : Block) : Block :=
  if b.cfgValid then body b else b.raise .cmdNotConfigured

/-- A pipeline command runs only from the states of its "from" set (44_pipeline.md R100; check 4 of R119, made after
the CFG_VALID check). -/
def Block.ifSequenced (allowed : Fsm → Bool) (body : Block → Block) (b : Block) : Block :=
  b.ifConfigured fun b => if allowed b.fsm then body b else b.raise .cmdSequence

/-- The "from" set of ENCODE and RUN_CHUNK (R99): no chunk is in flight. -/
def Fsm.startsChunk : Fsm → Bool
  | .idle => true
  | .encoded => false
  | .framed => false
  | .channeled => false
  | .matched => true
  | .mismatched => true

end Sys2Proof.Machine
end

