-- ==== Sys2Proof/Machine/Channel.lean ====
section
/-! DEFINITION. The PRBS-driven bit-flip injector: the generator (43_channel.md R90 to R93), the flip decision (R94)
and CORRUPT (R95). PRBS_STEP is a parameter of the block (R90): every operation and `corruptWith` take it as
an argument, and `execCorrupt` gives it this hardware's value, the xorshift of R91 (log 8). -/

namespace Sys2Proof.Machine

/-- This hardware's PRBS_STEP, the 32-bit xorshift with shifts 13, 17 and 5 (R91). -/
def xorshiftStep (s : Word) : Word :=
  let s1 := s ^^^ (s <<< 13)
  let s2 := s1 ^^^ (s1 >>> 17)
  s2 ^^^ (s2 <<< 5)

/-- The 16-bit draw of a generator state that has just been advanced, PRBS_STATE[31:16] (R92). -/
def drawOf (state : Word) : BitVec 16 := state.extractLsb' 16 16

/-- The value PRBS_STATE is loaded with from a seed (R93). -/
def seededState (seed : Word) : Word := if seed = 0 then 1 else seed

/-- Whether a draw flips its bit, `u < ACT_P_THRESH` (R94). -/
def flips (thresh : BitVec 17) (u : BitVec 16) : Bool := decide (u.toNat < thresh.toNat)

/-- Frame bits of register positions `i − 1` down to 0 through the channel, one draw each, and the generator's state
after them (R95, R96). -/
def corruptLoop (prbsStep : Word → Word) (thresh : BitVec 17) : Nat → BitVec 72 → Word → BitVec 72 × Word
  | 0, f, p => (f, p)
  | i + 1, f, p =>
    let p' := prbsStep p
    let f' := if flips thresh (drawOf p') then f ^^^ (1#72 <<< i) else f
    corruptLoop prbsStep thresh i f' p'

/-- The bit-flip channel on an n-bit frame: the received frame and the generator's state after it (R95). -/
def corruptFrame (prbsStep : Word → Word) (thresh : BitVec 17) (n : Nat) (frame : BitVec 72) (p : Word) :
    BitVec 72 × Word :=
  corruptLoop prbsStep thresh n (zextLow n frame) p

/-- CORRUPT from "n = ACT_CHUNK_BITS + 8" on (R95), for any PRBS_STEP. -/
def Block.corruptBody (prbsStep : Word → Word) (b : Block) : Block :=
  { b with
    rxFrame := (corruptFrame prbsStep b.actPThresh b.frameSize b.txFrame b.prbsState).1
    prbsState := (corruptFrame prbsStep b.actPThresh b.frameSize b.txFrame b.prbsState).2
    fsm := .channeled }

/-- The "from" set of CORRUPT (R99). -/
def Fsm.startsCorrupt : Fsm → Bool
  | .framed => true
  | .idle => false
  | .encoded => false
  | .channeled => false
  | .matched => false
  | .mismatched => false

/-- CORRUPT (R95), for any PRBS_STEP. -/
def Block.corruptCommand (prbsStep : Word → Word) : Block → Block :=
  Block.ifSequenced Fsm.startsCorrupt (Block.corruptBody prbsStep)

/-- The meaning of CORRUPT (R95), with PRBS_STEP as an argument (R90). -/
def corruptWith (prbsStep : Word → Word) (s : State) : Host.Outcome State Fault Refusal :=
  .next (s.onBlock (Block.corruptCommand prbsStep))

/-- The meaning of CORRUPT (R95), with this hardware's PRBS_STEP (R91). -/
def execCorrupt (s : State) : Host.Outcome State Fault Refusal := corruptWith xorshiftStep s

end Sys2Proof.Machine
end

