-- ==== Sys2Proof/Machine/Control.lean ====
section
/-! DEFINITION. Configuration and control: NOP (45_control.md R109), CONFIGURE (R110, R111), CLEAR_ERR (R112) and
SOFT_RESET (R113). -/

namespace Sys2Proof.Machine

/-- The meaning of NOP (R109): no effect. -/
def execNop (s : State) : Host.Outcome State Fault Refusal := .next s

/-- The first failing check of CONFIGURE, in the order of R110 and R120; `none` when the shadow configuration is
legal. The check of the polynomial's length is `9 >= c + 8`, that is c = 1 (90_conflicts.md C1). -/
def Block.configureCheck (b : Block) : Option ErrCause :=
  if b.chunkBits.toNat = 0 then some .cfgChunkZero
  else if b.chunkBits.toNat > Config.maxChunkBits then some .cfgChunkTooLarge
  else if Config.polyBits ≥ b.chunkBits.toNat + Config.checkBits then some .cfgPolyTooLong
  else if b.poly.msb = false then some .cfgPolyMsbZero
  else if b.pThresh.toNat > Config.maxThresh then some .cfgProbRange
  else none

/-- CONFIGURE's success (R110): copy the shadow configuration, load the generator (R93), clear the datapath, the record
and the counters, and start a run. DATA and the shadow registers stay. -/
def Block.startRun (b : Block) : Block :=
  { b with
    actPoly := b.poly
    actChunkBits := b.chunkBits
    actPThresh := b.pThresh
    prbsState := seededState b.seed
    txData := 0
    check := 0
    txFrame := 0
    rxFrame := 0
    rxData := 0
    rxCheck := 0
    recomp := 0
    recIndex := 0
    burstCount := 0
    matchCount := 0
    mismatchCount := 0
    fsm := .idle
    cfgValid := true
    err := false
    errCause := .none }

/-- CONFIGURE (R110, R111). -/
def Block.configureCommand (b : Block) : Block :=
  match b.configureCheck with
  | some cause => b.failConfigure cause
  | none => b.startRun

/-- The meaning of CONFIGURE (R110). -/
def execConfigure (s : State) : Host.Outcome State Fault Refusal := .next (s.onBlock Block.configureCommand)

/-- The meaning of CLEAR_ERR (R112). -/
def execClearErr (s : State) : Host.Outcome State Fault Refusal := .next (s.onBlock Block.clearError)

/-- Every register to its reset value, by SOFT_RESET or by the hardware reset input (R113, R129). -/
def Block.resetAll (_ : Block) : Block := Block.reset

/-- The meaning of SOFT_RESET (R113). The host's side of the bus is no register of the block and stays (log 9). -/
def execSoftReset (s : State) : Host.Outcome State Fault Refusal := .next (s.onBlock Block.resetAll)

end Sys2Proof.Machine
end

