-- ==== Sys2Proof/Machine/Flags.lean ====
section
/-! DEFINITION. STATUS (10_state.md R22): the codes of its fields, the derived match flag (R25), and the word a host
read returns. The match flag is the block's only condition flag (R48). -/

namespace Sys2Proof.Machine

/-- The value of STATUS.FSM (R27). -/
def Fsm.code : Fsm → BitVec 3
  | .idle => 0
  | .encoded => 1
  | .framed => 2
  | .channeled => 3
  | .matched => 4
  | .mismatched => 5

/-- The value of STATUS.ERR_CAUSE (R26). -/
def ErrCause.code : ErrCause → BitVec 4
  | .none => 0x0
  | .cfgChunkZero => 0x1
  | .cfgChunkTooLarge => 0x2
  | .cfgPolyTooLong => 0x3
  | .cfgPolyMsbZero => 0x4
  | .cfgProbRange => 0x5
  | .cmdIllegal => 0x8
  | .cmdNotConfigured => 0x9
  | .cmdBadLength => 0xA
  | .cmdSequence => 0xB

/-- STATUS.MATCH, derived and not stored (R25). -/
def Block.matchFlag (b : Block) : Bool := b.fsm.code == 4#3

/-- The eleven implemented bits of STATUS, FSM at the top: FSM, ERR_CAUSE, a reserved 0, MATCH, ERR, CFG_VALID (R22). -/
def Block.statusBits (b : Block) : BitVec 11 :=
  b.fsm.code ++ b.errCause.code ++ 0#1 ++ BitVec.ofBool b.matchFlag ++ BitVec.ofBool b.err ++
    BitVec.ofBool b.cfgValid

end Sys2Proof.Machine
end

