-- ==== Sys2Proof/Machine/Operands.lean ====
section
/-! DEFINITION. The register map (10_state.md R18) as the host sees it: offsets, access kinds, widths, and the one
place where a register is read or written by the host (20_memory.md R54 to R58). -/

namespace Sys2Proof.Machine

/-- The constant of the ID register (R20). -/
def idWord : Word := 0x43524338#32

/-- The byte offset of a register (R18). -/
def RegName.offset : RegName → BitVec 8
  | .id => 0x00
  | .cmd => 0x04
  | .status => 0x08
  | .poly => 0x0C
  | .chunkBits => 0x10
  | .pThresh => 0x14
  | .seed => 0x18
  | .prbsState => 0x1C
  | .dataLo => 0x20
  | .dataHi => 0x24
  | .txDataLo => 0x28
  | .txDataHi => 0x2C
  | .check => 0x30
  | .txFrame0 => 0x34
  | .txFrame1 => 0x38
  | .txFrame2 => 0x3C
  | .rxFrame0 => 0x40
  | .rxFrame1 => 0x44
  | .rxFrame2 => 0x48
  | .rxDataLo => 0x4C
  | .rxDataHi => 0x50
  | .rxCheck => 0x54
  | .recomp => 0x58
  | .recIndex => 0x5C
  | .burstCount => 0x60
  | .matchCount => 0x64
  | .mismatchCount => 0x68
  | .actPoly => 0x6C
  | .actChunkBits => 0x70
  | .actPThresh => 0x74

/-- Every register, in the order of the map. -/
def RegName.all : List RegName :=
  [.id, .cmd, .status, .poly, .chunkBits, .pThresh, .seed, .prbsState, .dataLo, .dataHi] ++
  [.txDataLo, .txDataHi, .check, .txFrame0, .txFrame1, .txFrame2, .rxFrame0, .rxFrame1, .rxFrame2] ++
  [.rxDataLo, .rxDataHi, .rxCheck, .recomp, .recIndex, .burstCount, .matchCount, .mismatchCount] ++
  [.actPoly, .actChunkBits, .actPThresh]

/-- The register at a byte offset; `none` at a misaligned offset and at the unmapped 0x78 to 0xFC (R52, R55). -/
def RegName.atOffset (off : BitVec 8) : Option RegName := RegName.all.find? fun r => r.offset == off

/-- The access kind of a register (R17, R18). -/
def RegName.access : RegName → AccessKind
  | .cmd => .wo
  | .poly => .rw
  | .chunkBits => .rw
  | .pThresh => .rw
  | .seed => .rw
  | .dataLo => .rw
  | .dataHi => .rw
  | .id => .ro
  | .status => .ro
  | .prbsState => .ro
  | .txDataLo => .ro
  | .txDataHi => .ro
  | .check => .ro
  | .txFrame0 => .ro
  | .txFrame1 => .ro
  | .txFrame2 => .ro
  | .rxFrame0 => .ro
  | .rxFrame1 => .ro
  | .rxFrame2 => .ro
  | .rxDataLo => .ro
  | .rxDataHi => .ro
  | .rxCheck => .ro
  | .recomp => .ro
  | .recIndex => .ro
  | .burstCount => .ro
  | .matchCount => .ro
  | .mismatchCount => .ro
  | .actPoly => .ro
  | .actChunkBits => .ro
  | .actPThresh => .ro

/-- The word a host read of a register returns: the implemented bits as stored, zeros above them (R19, R54), CMD as 0
(R56), wide values by words with the least significant first (R60). -/
def Block.readReg (b : Block) : RegName → Word
  | .id => idWord
  | .cmd => 0
  | .status => b.statusBits.setWidth 32
  | .poly => b.poly.setWidth 32
  | .chunkBits => b.chunkBits.setWidth 32
  | .pThresh => b.pThresh.setWidth 32
  | .seed => b.seed
  | .prbsState => b.prbsState
  | .dataLo => b.data.extractLsb' 0 32
  | .dataHi => b.data.extractLsb' 32 32
  | .txDataLo => b.txData.extractLsb' 0 32
  | .txDataHi => b.txData.extractLsb' 32 32
  | .check => b.check.setWidth 32
  | .txFrame0 => b.txFrame.extractLsb' 0 32
  | .txFrame1 => b.txFrame.extractLsb' 32 32
  | .txFrame2 => (b.txFrame.extractLsb' 64 8).setWidth 32
  | .rxFrame0 => b.rxFrame.extractLsb' 0 32
  | .rxFrame1 => b.rxFrame.extractLsb' 32 32
  | .rxFrame2 => (b.rxFrame.extractLsb' 64 8).setWidth 32
  | .rxDataLo => b.rxData.extractLsb' 0 32
  | .rxDataHi => b.rxData.extractLsb' 32 32
  | .rxCheck => b.rxCheck.setWidth 32
  | .recomp => b.recomp.setWidth 32
  | .recIndex => b.recIndex
  | .burstCount => b.burstCount
  | .matchCount => b.matchCount
  | .mismatchCount => b.mismatchCount
  | .actPoly => b.actPoly.setWidth 32
  | .actChunkBits => b.actChunkBits.setWidth 32
  | .actPThresh => b.actPThresh.setWidth 32

/-- Store the low bits of `v` in an RW register, whatever its value (R19, R57, R60); a write to any other register
stores nothing (R58; what a CMD write does is not storing, R21). -/
def Block.writeReg (r : RegName) (v : Word) (b : Block) : Block :=
  match r with
  | .poly => { b with poly := v.setWidth 9 }
  | .chunkBits => { b with chunkBits := v.setWidth 7 }
  | .pThresh => { b with pThresh := v.setWidth 17 }
  | .seed => { b with seed := v }
  | .dataLo => { b with data := b.data.extractLsb' 32 32 ++ v }
  | .dataHi => { b with data := v ++ b.data.extractLsb' 0 32 }
  | .id => b
  | .cmd => b
  | .status => b
  | .prbsState => b
  | .txDataLo => b
  | .txDataHi => b
  | .check => b
  | .txFrame0 => b
  | .txFrame1 => b
  | .txFrame2 => b
  | .rxFrame0 => b
  | .rxFrame1 => b
  | .rxFrame2 => b
  | .rxDataLo => b
  | .rxDataHi => b
  | .rxCheck => b
  | .recomp => b
  | .recIndex => b
  | .burstCount => b
  | .matchCount => b
  | .mismatchCount => b
  | .actPoly => b
  | .actChunkBits => b
  | .actPThresh => b

end Sys2Proof.Machine
end

