-- ==== Sys2Proof/Machine/Bus.lean ====
section
/-! DEFINITION. The host's accesses (20_memory.md): the address decode, bus errors, register reads and writes, and
the CMD write that runs a command. What a command does is an argument, `execute`, so that the same bus serves the
machine of every PRBS_STEP (00_scope.md R7, log 8). -/

namespace Sys2Proof.Machine

/-- The offset in the window of a block based at `base`; `none` for an address the window does not hold (R50). -/
def windowOffset (base addr : Nat) : Option (BitVec 8) :=
  if base ≤ addr ∧ addr < base + Config.windowBytes then some (BitVec.ofNat 8 (addr - base)) else none

/-- `MemRead(addr, size)` on a block based at `base` (00_scope.md R10), when it reaches the window. -/
def memRead (base addr : Nat) (size : AccessSize) : Option HostEvent :=
  (windowOffset base addr).map fun off => .read off size

/-- `MemWrite(addr, size, v)` on a block based at `base` (00_scope.md R10), when it reaches the window. -/
def memWrite (base addr : Nat) (size : AccessSize) (v : Word) : Option HostEvent :=
  (windowOffset base addr).map fun off => .write off size v

/-- The register an access reaches; `none` for a bus error: a size other than 32 bits (R51), a misaligned offset (R52)
or an unmapped one (R55). -/
def accessTarget (off : BitVec 8) (size : AccessSize) : Option RegName :=
  match size with
  | .bits32 => if off.toNat % 4 = 0 then RegName.atOffset off else none
  | .bits8 => none
  | .bits16 => none
  | .bits64 => none

/-- The host gets the data its read returned (R54). -/
def State.logRead (s : State) (v : Word) : State := { s with readLog := v :: s.readLog }

/-- What the commands do: `exec`, or `execWith` of some PRBS_STEP. -/
abbrev Executor := Instr → State → Host.Outcome State Fault Refusal

/-- The command a CMD write runs (R59): a word that does not decode is refused with CMD_ILLEGAL (R72, R73). -/
def runCommand (execute : Executor) (w : Word) (s : State) : Host.Outcome State Fault Refusal :=
  match decode w with
  | .ok i => execute i s
  | .error _ => .next (s.onBlock (Block.raise .cmdIllegal))

/-- A host read (R54, R56). -/
def serveRead (off : BitVec 8) (size : AccessSize) (s : State) : Host.Outcome State Fault Refusal :=
  match accessTarget off size with
  | some r => .next (s.logRead (s.block.readReg r))
  | none => .fault .busError

/-- What a 32-bit write to a register does, by its access kind (R17, R57 to R59). -/
def writeTarget (execute : Executor) (r : RegName) (v : Word) (s : State) : Host.Outcome State Fault Refusal :=
  match r.access with
  | .wo => runCommand execute v s
  | .rw => .next (s.onBlock (Block.writeReg r v))
  | .ro => .next s

/-- A host write. -/
def serveWrite (execute : Executor) (off : BitVec 8) (size : AccessSize) (v : Word) (s : State) :
    Host.Outcome State Fault Refusal :=
  match accessTarget off size with
  | some r => writeTarget execute r v s
  | none => .fault .busError

/-- One host event: an access (R54 to R59), a hardware reset (R129), or an access made while reset is asserted, which
the spec leaves to a fault (I10; log 11). -/
def serve (execute : Executor) (e : HostEvent) (s : State) : Host.Outcome State Fault Refusal :=
  match e with
  | .read off size => serveRead off size s
  | .write off size v => serveWrite execute off size v s
  | .hardwareReset => .next (s.onBlock Block.resetAll)
  | .accessDuringReset => .fault .accessDuringReset

/-- The CMD write that carries a command word (R59, R76). -/
def cmdWrite (w : Word) : HostEvent := .write RegName.cmd.offset .bits32 w

/-- Take one host event from the front of the host's list and serve it; with none to come, nothing happens, because
the block has no step of its own (00_scope.md R4, 20_memory.md R62, R64; log 12). -/
def stepHost (execute : Executor) (s : State) : Host.Outcome State Fault Refusal :=
  match s.pending with
  | [] => .next s
  | e :: rest => serve execute e { s with pending := rest }

/-- The host makes an access at an address of the platform: it joins the end of the list when it reaches this block's
window, and is no access of this block otherwise (R50, log 3). -/
def State.issue (s : State) (e : Option HostEvent) : State := { s with pending := s.pending ++ e.toList }

/-- `MemRead(addr, size)` by the platform's BASE_ADDR. -/
def State.hostRead (s : State) (addr : Nat) (size : AccessSize) : State :=
  s.issue (memRead Config.baseAddr addr size)

/-- `MemWrite(addr, size, v)` by the platform's BASE_ADDR. -/
def State.hostWrite (s : State) (addr : Nat) (size : AccessSize) (v : Word) : State :=
  s.issue (memWrite Config.baseAddr addr size v)

end Sys2Proof.Machine
end

