-- ==== Sys2Proof/Machine/Framer.lean ====
section
/-! DEFINITION. The Framer: PAD (41_framer.md R78). -/

namespace Sys2Proof.Machine

/-- PAD's write of DATA, once its checks have passed (R78): the N valid bits to the front of the chunk, zeros behind
them and above the chunk. -/
def Block.padBody (n : Nat) (b : Block) : Block :=
  { b with data := zextLow n b.data <<< (b.chunkSize - n) }

/-- PAD N (R78): CFG_VALID first, then the length (R119). -/
def Block.padCommand (n : Nat) : Block → Block :=
  Block.ifConfigured fun b => if n = 0 ∨ n > b.chunkSize then b.raise .cmdBadLength else b.padBody n

/-- The meaning of PAD N (R78). -/
def execPad (n : Nat) (s : State) : Host.Outcome State Fault Refusal := .next (s.onBlock (Block.padCommand n))

end Sys2Proof.Machine
end

