-- ==== Sys2Proof/Machine/Crc.lean ====
section
/-! DEFINITION. The CRC-8 polynomial divider: the normative division (42_crc.md R82), the register form every command
uses (R83), and ENCODE (R86). A bit string is held as its value (00_scope.md R9), a number whose bit L − 1 is the
first bit of the string. -/

namespace Sys2Proof.Machine

/-- One bit through the 8-bit remainder register (R83): `bit` is the next bit of the data, first bit first. -/
def crcStep (p : BitVec 8) (r : BitVec 8) (bit : Bool) : BitVec 8 :=
  if r.msb ^^ bit then (r <<< 1) ^^^ p else r <<< 1

/-- Bits `i − 1` down to 0 of `v` through the remainder register (R83). -/
def crcLoop (p : BitVec 8) (v : Nat) : Nat → BitVec 8 → BitVec 8
  | 0, r => r
  | i + 1, r => crcLoop p v i (crcStep p r (v.testBit i))

/-- `crc8(v, L, P)` (R83): the check code of the L-bit value `v`. P[8] is not read (R89; log 14). -/
def crc8 (v L : Nat) (poly : BitVec 9) : BitVec 8 := crcLoop (poly.setWidth 8) v L 0

/-- "XOR the entire register with the polynomial" when its leading bit is 1 (R82, step 2 and step 3). -/
def divideXor (poly r : BitVec 9) : BitVec 9 := if r.msb then r ^^^ poly else r

/-- Step 2 of R82, for the `i` bits of the extended data `e` that are still unconsumed, bits `i − 1` down to 0. -/
def divideLoop (poly : BitVec 9) (e : Nat) : Nat → BitVec 9 → BitVec 9
  | 0, r => r
  | i + 1, r => divideLoop poly e i ((divideXor poly r).setWidth 8 ++ BitVec.ofBool (e.testBit i))

/-- `divide_literal(s, L, P)`, the source's four steps on the extended data E = s ‖ 0^8 (R81, R82), for L ≥ 1: the
working register starts as the first nine bits of E. -/
def divideLiteral (v L : Nat) (poly : BitVec 9) : BitVec 8 :=
  (divideXor poly (divideLoop poly (v * 2 ^ 8) (L - 1) (BitVec.ofNat 9 (v * 2 ^ 8 / 2 ^ (L - 1))))).setWidth 8

/-- ENCODE from "c = ACT_CHUNK_BITS" on (R86). -/
def Block.encodeBody (b : Block) : Block :=
  { b with
    txData := zextLow b.chunkSize b.data
    check := crc8 (zextLow b.chunkSize b.data).toNat b.chunkSize b.actPoly
    fsm := .encoded }

/-- ENCODE (R86). -/
def Block.encodeCommand : Block → Block := Block.ifSequenced Fsm.startsChunk Block.encodeBody

/-- The meaning of ENCODE (R86). -/
def execEncode (s : State) : Host.Outcome State Fault Refusal := .next (s.onBlock Block.encodeCommand)

end Sys2Proof.Machine
end

