-- ==== Sys2Proof/Machine/Pipeline.lean ====
section
/-! DEFINITION. The pipeline sequencer: FRAME (44_pipeline.md R101), VERIFY (R102) and RUN_CHUNK (R104). -/

namespace Sys2Proof.Machine

/-- The "from" set of FRAME (R99). -/
def Fsm.startsFrame : Fsm → Bool
  | .encoded => true
  | .idle => false
  | .framed => false
  | .channeled => false
  | .matched => false
  | .mismatched => false

/-- The "from" set of VERIFY (R99). -/
def Fsm.startsVerify : Fsm → Bool
  | .channeled => true
  | .idle => false
  | .encoded => false
  | .framed => false
  | .matched => false
  | .mismatched => false

/-- `zext_72(chunk[c−1:0] ‖ check)`: data first, check code last (R101). -/
def frameOf (c : Nat) (chunk : BitVec 64) (check : BitVec 8) : BitVec 72 :=
  (chunk.setWidth c ++ check).setWidth 72

/-- FRAME from "c = ACT_CHUNK_BITS" on (R101). -/
def Block.frameBody (b : Block) : Block :=
  { b with txFrame := frameOf b.chunkSize b.txData b.check, fsm := .framed }

/-- FRAME (R101). -/
def Block.frameCommand : Block → Block := Block.ifSequenced Fsm.startsFrame Block.frameBody

/-- The meaning of FRAME (R101). -/
def execFrame (s : State) : Host.Outcome State Fault Refusal := .next (s.onBlock Block.frameCommand)

/-- `zext_64(frame[n−1:8])`, the first c bits of a received frame (R38, R102). -/
def dataPart (c : Nat) (frame : BitVec 72) : BitVec 64 := (frame.extractLsb' Config.checkBits c).setWidth 64

/-- `frame[7:0]`, the remaining bits of a received frame (R39, R102). -/
def checkPart (frame : BitVec 72) : BitVec 8 := frame.setWidth 8

/-- VERIFY's disassembly and recomputation (R102): RX_DATA, RX_CHECK, RECOMP, REC_INDEX and BURST_COUNT. -/
def Block.recordBody (b : Block) : Block :=
  { b with
    rxData := dataPart b.chunkSize b.rxFrame
    rxCheck := checkPart b.rxFrame
    recomp := crc8 (dataPart b.chunkSize b.rxFrame).toNat b.chunkSize b.actPoly
    recIndex := b.burstCount
    burstCount := b.burstCount + 1 }

/-- VERIFY's comparison and its outcome (R102): a mismatch is no error (60_exceptions.md R121). -/
def Block.judgeBody (b : Block) : Block :=
  if b.recomp = b.rxCheck then { b with fsm := .matched, matchCount := b.matchCount + 1 }
  else { b with fsm := .mismatched, mismatchCount := b.mismatchCount + 1 }

/-- VERIFY from "c = ACT_CHUNK_BITS" on (R102). -/
def Block.verifyBody (b : Block) : Block := b.recordBody.judgeBody

/-- VERIFY (R102). -/
def Block.verifyCommand : Block → Block := Block.ifSequenced Fsm.startsVerify Block.verifyBody

/-- The meaning of VERIFY (R102). -/
def execVerify (s : State) : Host.Outcome State Fault Refusal := .next (s.onBlock Block.verifyCommand)

/-- The four bodies of RUN_CHUNK, one after another (R104; log 15), for any PRBS_STEP. -/
def Block.runChunkBody (prbsStep : Word → Word) (b : Block) : Block :=
  (b.encodeBody.frameBody.corruptBody prbsStep).verifyBody

/-- RUN_CHUNK (R104), for any PRBS_STEP. -/
def Block.runChunkCommand (prbsStep : Word → Word) : Block → Block :=
  Block.ifSequenced Fsm.startsChunk (Block.runChunkBody prbsStep)

/-- The meaning of RUN_CHUNK (R104), with PRBS_STEP as an argument (43_channel.md R90). -/
def runChunkWith (prbsStep : Word → Word) (s : State) : Host.Outcome State Fault Refusal :=
  .next (s.onBlock (Block.runChunkCommand prbsStep))

/-- The meaning of RUN_CHUNK (R104), with this hardware's PRBS_STEP (43_channel.md R91). -/
def execRunChunk (s : State) : Host.Outcome State Fault Refusal := runChunkWith xorshiftStep s

end Sys2Proof.Machine
end

