-- ==== Sys2Proof/Machine/Dispatch.lean ====
section
/-! DEFINITION. One arm per command (30_encoding.md R71), each one direct call of its meaning. -/

namespace Sys2Proof.Machine

def exec (i : Instr) (s : State) : Host.Outcome State Fault Refusal :=
  match i with
  | .nop => Sys2Proof.Machine.execNop s
  | .configure => Sys2Proof.Machine.execConfigure s
  | .pad n => Sys2Proof.Machine.execPad n s
  | .encode => Sys2Proof.Machine.execEncode s
  | .frame => Sys2Proof.Machine.execFrame s
  | .corrupt => Sys2Proof.Machine.execCorrupt s
  | .verify => Sys2Proof.Machine.execVerify s
  | .runChunk => Sys2Proof.Machine.execRunChunk s
  | .clearErr => Sys2Proof.Machine.execClearErr s
  | .softReset => Sys2Proof.Machine.execSoftReset s

end Sys2Proof.Machine
end

