-- ==== Sys2Proof/Machine/Step.lean ====
section
/-! DEFINITION. One step of the machine: the next host event is served. -/

namespace Sys2Proof.Machine

/-- One step: the host's next event (20_memory.md R62, R64), with the commands of this hardware. -/
def step (s : State) : Host.Outcome State Fault Refusal := stepHost exec s

/-- `s` with the command word that holds the low `nbits` bits of `w` as the host's very next CMD write. The block
fetches nothing: the host supplies each command by writing CMD (10_state.md R16; log 4). -/
def State.withFetchWord (s : State) (nbits w : Nat) : State :=
  { s with pending := cmdWrite (wordOfBits nbits w) :: s.pending }

end Sys2Proof.Machine
end

