-- ==== Sys2Proof/Machine/AnyGenerator.lean ====
section
/-! DEFINITION. The machine with PRBS_STEP as an argument, as 00_scope.md R7 and 43_channel.md R90 ask of a model: the
commands, the step and the machine of every generator. `exec`, `step` and `core`, whose types the host fixes, are these
at this hardware's generator, the xorshift of R91 (log 8). -/

namespace Sys2Proof.Machine

/-- The commands of the block whose generator is `prbsStep`. CORRUPT and RUN_CHUNK alone draw from it (R32, R92). -/
def execWith (prbsStep : Word → Word) (i : Instr) (s : State) : Host.Outcome State Fault Refusal :=
  match i with
  | .nop => execNop s
  | .configure => execConfigure s
  | .pad n => execPad n s
  | .encode => execEncode s
  | .frame => execFrame s
  | .corrupt => corruptWith prbsStep s
  | .verify => execVerify s
  | .runChunk => runChunkWith prbsStep s
  | .clearErr => execClearErr s
  | .softReset => execSoftReset s

/-- One step of the machine whose generator is `prbsStep`. -/
def stepWith (prbsStep : Word → Word) (s : State) : Host.Outcome State Fault Refusal :=
  stepHost (execWith prbsStep) s

/-- The machine whose generator is `prbsStep`, behind the host's interface. -/
def coreWith (prbsStep : Word → Word) : Host.Core :=
  { State := State, Fault := Fault, Refusal := Refusal, step := stepWith prbsStep, reset := State.reset }

end Sys2Proof.Machine
end

