-- ==== Sys2Proof/Machine/HostProgram.lean ====
section
/-! DEFINITION. The host's own side of the contract: its program syntax and pseudo-instructions as the accesses they
stand for (30_encoding.md R76, R77), the partition of a message into chunks (41_framer.md R79), and the conversions the
spec gives to the host (10_state.md R30, R31; 20_memory.md R61; log 16). -/

namespace Sys2Proof.Machine

/-- The 64-bit values `rd64` reads (R77). -/
inductive Wide64 where
  | data
  | txData
  | rxData
  deriving DecidableEq, Repr

/-- The 72-bit values `rd72` reads (R77). -/
inductive Wide72 where
  | txFrame
  | rxFrame
  deriving DecidableEq, Repr

/-- A line of a host program (R76) or a pseudo-instruction (R77). A bare command mnemonic is `cmd`. -/
inductive HostLine where
  | wr (r : RegName) (v : Word)
  | rd (r : RegName)
  | cmd (i : Instr)
  | ld64 (v : BitVec 64)
  | chunk (v : BitVec 64) (n : Nat)
  | setup (p c t s : Word)
  | rd64 (x : Wide64)
  | rd72 (x : Wide72)
  | record
  deriving DecidableEq, Repr

/-- `wr REG, v` (R76). -/
def writeEvent (r : RegName) (v : Word) : HostEvent := .write r.offset .bits32 v

/-- `rd REG` (R76). -/
def readEvent (r : RegName) : HostEvent := .read r.offset .bits32

/-- The registers of a 64-bit value, least significant word first (R60). -/
def Wide64.regs : Wide64 → List RegName
  | .data => [.dataLo, .dataHi]
  | .txData => [.txDataLo, .txDataHi]
  | .rxData => [.rxDataLo, .rxDataHi]

/-- The registers of a 72-bit value, least significant word first (R60). -/
def Wide72.regs : Wide72 → List RegName
  | .txFrame => [.txFrame0, .txFrame1, .txFrame2]
  | .rxFrame => [.rxFrame0, .rxFrame1, .rxFrame2]

/-- `ld64 DATA, v` (R77). -/
def ld64Events (v : BitVec 64) : List HostEvent :=
  [writeEvent .dataLo (v.extractLsb' 0 32), writeEvent .dataHi (v.extractLsb' 32 32)]

/-- The bus accesses a line stands for, in order (R76, R77). DESIGN CHOICE (log 18): the spec gives `cmd PAD, n`, `PAD n`
and `chunk v, n` no word for n > 127; `encode` takes such an n modulo 128, so `chunk v 130` issues PAD 2. -/
def HostLine.events : HostLine → List HostEvent
  | .wr r v => [writeEvent r v]
  | .rd r => [readEvent r]
  | .cmd i => [cmdWrite (encode i)]
  | .ld64 v => ld64Events v
  | .chunk v n => ld64Events v ++ [cmdWrite (encode (.pad n))]
  | .setup p c t s =>
    [writeEvent .poly p, writeEvent .chunkBits c, writeEvent .pThresh t, writeEvent .seed s,
      cmdWrite (encode .configure)]
  | .rd64 x => x.regs.map readEvent
  | .rd72 x => x.regs.map readEvent
  | .record =>
    [readEvent .status, readEvent .recIndex] ++ Wide64.txData.regs.map readEvent ++
      Wide72.txFrame.regs.map readEvent ++ Wide72.rxFrame.regs.map readEvent ++ [readEvent .recomp]

/-- The accesses of a host program. -/
def hostProgram (lines : List HostLine) : List HostEvent := lines.flatMap HostLine.events

/-- `val(s)`: the value of a bit string, first bit most significant (00_scope.md R9). -/
def bitStringVal (bits : List Bool) : Nat := bits.foldl (fun v b => 2 * v + b.toNat) 0

/-- `split(B, c)` before padding (R79): m = ceil(L / c) windows of c bits, the last one as long as what is left. For
c = 0, which is no chunk size (R110), there is no window (DESIGN CHOICE, log 17). -/
def splitBits (c : Nat) (bits : List Bool) : List (List Bool) :=
  (List.range ((bits.length + c - 1) / c)).map fun j => (bits.drop (j * c)).take c

/-- The lines that stage the chunks of a message one after another, each as `chunk val, r` (R79), with the command
`RUN_CHUNK` after each (70_reset_and_hazards.md R131). A window longer than 64 bits, which no legal c gives, is cut
(DESIGN CHOICE, log 18). -/
def sendBits (c : Nat) (bits : List Bool) : List HostLine :=
  (splitBits c bits).flatMap fun w => [.chunk (BitVec.ofNat 64 (bitStringVal w)) w.length, .cmd .runChunk]

/-- A message of 8-bit units as a bit string, most significant bit first, in input order (R61). -/
def bitsOfBytes (units : List (BitVec 8)) : List Bool := units.flatMap fun u => (List.range 8).map u.getMsbD

/-- The host's threshold for a probability, `floor(p · 65536 + 1/2)` (R30). DESIGN CHOICE (log 17): the spec gives the
conversion for a probability only, so for p outside [0, 1] it gives no threshold; there this is the bare formula's
integer, not clamped to [0, 65536] and not cut to 17 bits, negative below −1/131072. -/
def thresholdOf (p : Rat) : Int := (p * 65536 + 1 / 2).floor

/-- The host's reduction of an integer seed modulo 2^32 (R31). -/
def seedOf (seed : Int) : Word := BitVec.ofInt 32 seed

end Sys2Proof.Machine
end

