-- ==== Sys2Proof/Safety.lean ====
section
/-! DEFINITION. What the claims are stated in: the invariants of 10_state.md R46 and R45, the coherence of the
verification record (R47, 44_pipeline.md R106), the states a run reaches, and the host events that raise no fault. -/

namespace Sys2Proof.Machine

/-- ENCODE has been done for the current chunk: TX_DATA and CHECK belong to it (R47). -/
def Fsm.hasChunk : Fsm → Bool
  | .idle => false
  | .encoded => true
  | .framed => true
  | .channeled => true
  | .matched => true
  | .mismatched => true

/-- FRAME has been done for the current chunk: TX_FRAME belongs to it (R47). -/
def Fsm.hasFrame : Fsm → Bool
  | .idle => false
  | .encoded => false
  | .framed => true
  | .channeled => true
  | .matched => true
  | .mismatched => true

/-- VERIFY has been done for the current chunk: the record is complete (R47). -/
def Fsm.hasRecord : Fsm → Bool
  | .idle => false
  | .encoded => false
  | .framed => false
  | .channeled => false
  | .matched => true
  | .mismatched => true

/-- The active configuration has passed the checks of CONFIGURE (R45). -/
structure Block.ConfigLegal (b : Block) : Prop where
  two_le_chunk : 2 ≤ b.chunkSize
  chunk_le : b.chunkSize ≤ Config.maxChunkBits
  poly_first_bit : b.actPoly.msb = true
  thresh_le : b.actPThresh.toNat ≤ Config.maxThresh

/-- The invariants of the block: those of R46, the counters of R107, the legality of the active configuration (R45),
which reset and a failed CONFIGURE also leave legal, and the fact that a chunk is in progress only in a run (R99, R111).
FSM ∈ 0..5 and the legal codes of ERR_CAUSE hold by the types of the fields. -/
structure Block.Inv (b : Block) : Prop where
  config : b.ConfigLegal
  prbs_ne_zero : b.prbsState ≠ 0
  txData_high_zero : b.txData.toNat < 2 ^ b.chunkSize
  rxData_high_zero : b.rxData.toNat < 2 ^ b.chunkSize
  txFrame_high_zero : b.txFrame.toNat < 2 ^ b.frameSize
  rxFrame_high_zero : b.rxFrame.toNat < 2 ^ b.frameSize
  no_error_no_cause : b.err = false → b.errCause = .none
  counters : b.burstCount = b.matchCount + b.mismatchCount
  chunk_in_run : b.fsm.hasChunk = true → b.cfgValid = true

/-- The registers of the current chunk fit together, by the pipeline state (R47, R106): the check code is the chunk's,
the frame is the chunk and its check code, and a finished record is what VERIFY computes from the received frame, with
the match flag its comparison and REC_INDEX the count before it. -/
structure Block.RecordInv (b : Block) : Prop where
  check_of_chunk : b.fsm.hasChunk = true → b.check = crc8 b.txData.toNat b.chunkSize b.actPoly
  frame_of_chunk : b.fsm.hasFrame = true → b.txFrame.toNat = b.txData.toNat * 2 ^ 8 + b.check.toNat
  received_parts : b.fsm.hasRecord = true → b.rxFrame.toNat = b.rxData.toNat * 2 ^ 8 + b.rxCheck.toNat
  recomputed : b.fsm.hasRecord = true → b.recomp = crc8 b.rxData.toNat b.chunkSize b.actPoly
  match_flag : b.fsm.hasRecord = true → b.matchFlag = (b.recomp == b.rxCheck)
  record_index : b.fsm.hasRecord = true → b.burstCount = b.recIndex + 1

/-- The host events that raise no fault: an aligned 32-bit access at a mapped offset (R51, R52, R55), and a hardware
reset. -/
def HostEvent.Legal : HostEvent → Bool
  | .read off size => decide (size = .bits32) && decide (off.toNat % 4 = 0) && decide (off.toNat < 0x78)
  | .write off size _ => decide (size = .bits32) && decide (off.toNat % 4 = 0) && decide (off.toNat < 0x78)
  | .hardwareReset => true
  | .accessDuringReset => false

/-- The states a run reaches from reset, whatever the host does: it may plan any events, and it may plan them anew
between any two steps (log 1). -/
inductive Reachable : State → Prop where
  | reset (events : List HostEvent) : Reachable { State.reset with pending := events }
  | step {s t : State} (h : Reachable s) (hs : Machine.step s = .next t) : Reachable t
  | replan {s : State} (events : List HostEvent) (h : Reachable s) : Reachable { s with pending := events }

end Sys2Proof.Machine
end

