-- ==== Sys2Proof/Certificates/Slice0/Obligations.lean ====
section
/-! DEFINITION. The statements for the provers. Numbers that a rule gives (offsets, words, codes, widths) are written out
here from the rule, and values of registers are written as arithmetic on their numbers, so that a statement does not
lean on the model's own tables. `s.block` is the block, `s.pending` the host's accesses to come, `s.readLog` what its
reads returned. -/

open Sys2Proof Sys2Proof.Machine

namespace Sys2Proof.Machine

/-- The polynomial over GF(2) that an L-bit value stands for: bit i is the coefficient of x^i (00_scope.md R9, R11). -/
noncomputable def bitsPoly (L v : Nat) : Polynomial (ZMod 2) :=
  ∑ i ∈ Finset.range L, if v.testBit i then (Polynomial.X : Polynomial (ZMod 2)) ^ i else 0

end Sys2Proof.Machine

/-! ## Encoding -/

/-- 30_encoding.md §1 to §3: a word decodes to a command exactly when it is the word of that well-formed command, so
decoding and encoding agree both ways; and "Exactly 9 + 128 = 137 words are legal" (R72). -/
def Obligations.DecodeIsTheExactInverseOfEncode : Prop :=
  (∀ (w : Word) (i : Instr), decode w = .ok i ↔ i.WellFormed = true ∧ encode i = w) ∧
  ∃ ws : List Word, ws.length = 137 ∧ ws.Nodup ∧ ∀ w : Word, w ∈ ws ↔ ∃ i, decode w = .ok i

/-- R74: the exact command words with the masks that select them, and the sample PAD words. -/
def Obligations.CommandWordsOfTheTable : Prop :=
  (∀ (i : Instr) (word : Word), (i, word) ∈ ([(.nop, 0x00000000), (.configure, 0x00000001), (.encode, 0x00000003),
      (.frame, 0x00000004), (.corrupt, 0x00000005), (.verify, 0x00000006), (.runChunk, 0x00000007),
      (.clearErr, 0x00000008), (.softReset, 0x0000000F)] : List (Instr × Word)) →
    ∀ w : Word, w &&& 0xFFFFFFFF#32 = word ↔ decode w = .ok i) ∧
  (∀ n : Nat, n ≤ 127 → decode (0x00000002#32 ||| (BitVec.ofNat 32 n <<< 4)) = .ok (.pad n)) ∧
  (∀ w : Word, w &&& 0xFFFFF80F#32 = 0x00000002#32 ↔ ∃ n, n ≤ 127 ∧ decode w = .ok (.pad n)) ∧
  decode 0x00000082#32 = .ok (.pad 8) ∧ decode 0x00000102#32 = .ok (.pad 16) ∧
  decode 0x00000182#32 = .ok (.pad 24) ∧ decode 0x00000402#32 = .ok (.pad 64)

/-- Tier 1 sanity of the decoder on words written out bit by bit from format C, RSVD then N then OP (R69): one of each
kind, and one of each kind of illegal word (R72). -/
def Obligations.SampleWordsDecodeAsFormatC : Prop :=
  decodeTableWord 32 0b000000000000000000000_0000000_0011 = some .encode ∧
  decodeTableWord 32 0b000000000000000000000_1000000_0010 = some (.pad 64) ∧
  decodeTableWord 32 0b000000000000000000000_0000000_1111 = some .softReset ∧
  decodeTableWord 32 0b000000000000000000000_0000001_0011 = none ∧
  decodeTableWord 32 0b000000000000000000001_0000000_1111 = none ∧
  decodeTableWord 32 0b000000000000000000000_0000000_1001 = none

/-- R73: a reserved opcode, a nonzero reserved field, or a length on a command other than PAD raises CMD_ILLEGAL and
has no other effect; and the word 0 is the only one that never changes the block. -/
def Obligations.IllegalWordsAreRefusedAndOnlyNopDoesNothing : Prop :=
  (∀ (s : State) (rest : List HostEvent) (w : Word),
    ((0x9 ≤ w.toNat % 16 ∧ w.toNat % 16 ≤ 0xE) ∨ w.toNat / 2 ^ 11 ≠ 0 ∨
      (w.toNat / 2 ^ 4 % 2 ^ 7 ≠ 0 ∧ w.toNat % 16 ≠ 0x2)) →
    s.pending = .write 0x04#8 .bits32 w :: rest →
    step s = .next { s with
      pending := rest, block := { s.block with err := true, errCause := .cmdIllegal } }) ∧
  (∀ w : Word, (∀ (s : State) (rest : List HostEvent), s.pending = .write 0x04#8 .bits32 w :: rest →
    step s = .next { s with pending := rest }) ↔ w = 0)

/-! ## Host accesses -/

/-- R59: a CMD write runs the command its word encodes, in one step, on the state after the access has left the host's
list; a word that encodes none is refused. So on this hardware, and on the machine of every PRBS_STEP. -/
def Obligations.StepRunsTheDecodedCommand : Prop :=
  ∀ (s : State) (rest : List HostEvent) (w : Word), s.pending = .write 0x04#8 .bits32 w :: rest →
    (∀ i, decode w = .ok i → step s = exec i { s with pending := rest }) ∧
    (∀ r, decode w = .error r → step s = .next { s with
      pending := rest, block := { s.block with err := true, errCause := .cmdIllegal } }) ∧
    ∀ prbsStep : Word → Word,
      (∀ i, decode w = .ok i → stepWith prbsStep s = execWith prbsStep i { s with pending := rest }) ∧
      (∀ r, decode w = .error r → stepWith prbsStep s = .next { s with
        pending := rest, block := { s.block with err := true, errCause := .cmdIllegal } })

/-- 10_state.md §2 and 20_memory.md R54, R56, R60: what a read returns at each mapped offset but STATUS, and that it
changes nothing of the block. -/
def Obligations.RegisterMapReads : Prop :=
  ∀ (s : State) (rest : List HostEvent) (off : BitVec 8) (v : Nat),
    (off, v) ∈ ([(0x00#8, 0x43524338), (0x04#8, 0), (0x0C#8, s.block.poly.toNat),
      (0x10#8, s.block.chunkBits.toNat), (0x14#8, s.block.pThresh.toNat), (0x18#8, s.block.seed.toNat),
      (0x1C#8, s.block.prbsState.toNat), (0x20#8, s.block.data.toNat % 2 ^ 32),
      (0x24#8, s.block.data.toNat / 2 ^ 32), (0x28#8, s.block.txData.toNat % 2 ^ 32),
      (0x2C#8, s.block.txData.toNat / 2 ^ 32), (0x30#8, s.block.check.toNat),
      (0x34#8, s.block.txFrame.toNat % 2 ^ 32), (0x38#8, s.block.txFrame.toNat / 2 ^ 32 % 2 ^ 32),
      (0x3C#8, s.block.txFrame.toNat / 2 ^ 64), (0x40#8, s.block.rxFrame.toNat % 2 ^ 32),
      (0x44#8, s.block.rxFrame.toNat / 2 ^ 32 % 2 ^ 32), (0x48#8, s.block.rxFrame.toNat / 2 ^ 64),
      (0x4C#8, s.block.rxData.toNat % 2 ^ 32), (0x50#8, s.block.rxData.toNat / 2 ^ 32),
      (0x54#8, s.block.rxCheck.toNat), (0x58#8, s.block.recomp.toNat), (0x5C#8, s.block.recIndex.toNat),
      (0x60#8, s.block.burstCount.toNat), (0x64#8, s.block.matchCount.toNat),
      (0x68#8, s.block.mismatchCount.toNat), (0x6C#8, s.block.actPoly.toNat),
      (0x70#8, s.block.actChunkBits.toNat), (0x74#8, s.block.actPThresh.toNat)] : List (BitVec 8 × Nat)) →
    s.pending = .read off .bits32 :: rest →
    step s = .next { s with pending := rest, readLog := BitVec.ofNat 32 v :: s.readLog }

/-- R22, with the codes of R26 and R27 and the derived MATCH of R25: the fields of the STATUS word a host reads; a host
write to STATUS has no effect; and only commands and reset change it. -/
def Obligations.StatusWordLayout : Prop :=
  ∀ (s : State) (rest : List HostEvent),
    (s.pending = .read 0x08#8 .bits32 :: rest → ∃ v : Word,
      step s = .next { s with pending := rest, readLog := v :: s.readLog } ∧
      v.getLsbD 0 = s.block.cfgValid ∧ v.getLsbD 1 = s.block.err ∧
      (v.getLsbD 2 = true ↔ s.block.fsm = .matched) ∧ v.getLsbD 3 = false ∧
      (v.toNat / 2 ^ 4 % 2 ^ 4, s.block.errCause) ∈ ([(0x0, .none), (0x1, .cfgChunkZero),
        (0x2, .cfgChunkTooLarge), (0x3, .cfgPolyTooLong), (0x4, .cfgPolyMsbZero), (0x5, .cfgProbRange),
        (0x8, .cmdIllegal), (0x9, .cmdNotConfigured), (0xA, .cmdBadLength),
        (0xB, .cmdSequence)] : List (Nat × ErrCause)) ∧
      (v.toNat / 2 ^ 8 % 2 ^ 3, s.block.fsm) ∈ ([(0, .idle), (1, .encoded), (2, .framed), (3, .channeled),
        (4, .matched), (5, .mismatched)] : List (Nat × Fsm)) ∧
      v.toNat < 2 ^ 11) ∧
    (∀ v : Word, s.pending = .write 0x08#8 .bits32 v :: rest → step s = .next { s with pending := rest }) ∧
    (∀ t : State, step s = .next t → t.block.readReg .status ≠ s.block.readReg .status →
      ∃ later : List HostEvent, s.pending = .hardwareReset :: later ∨
        ∃ w : Word, s.pending = .write 0x04#8 .bits32 w :: later)

/-- R57: what a write to each RW offset stores, and that it does nothing else. -/
def Obligations.RwWriteStoresItsLowBits : Prop :=
  ∀ (s : State) (rest : List HostEvent) (v : Word),
    (s.pending = .write 0x0C#8 .bits32 v :: rest → step s = .next { s with
      pending := rest, block := { s.block with poly := BitVec.ofNat 9 v.toNat } }) ∧
    (s.pending = .write 0x10#8 .bits32 v :: rest → step s = .next { s with
      pending := rest, block := { s.block with chunkBits := BitVec.ofNat 7 v.toNat } }) ∧
    (s.pending = .write 0x14#8 .bits32 v :: rest → step s = .next { s with
      pending := rest, block := { s.block with pThresh := BitVec.ofNat 17 v.toNat } }) ∧
    (s.pending = .write 0x18#8 .bits32 v :: rest → step s = .next { s with
      pending := rest, block := { s.block with seed := v } }) ∧
    (s.pending = .write 0x20#8 .bits32 v :: rest → step s = .next { s with
      pending := rest, block := { s.block with
        data := BitVec.ofNat 64 (s.block.data.toNat / 2 ^ 32 * 2 ^ 32 + v.toNat) } }) ∧
    (s.pending = .write 0x24#8 .bits32 v :: rest → step s = .next { s with
      pending := rest, block := { s.block with
        data := BitVec.ofNat 64 (v.toNat * 2 ^ 32 + s.block.data.toNat % 2 ^ 32) } })

/-- R58: a write to an RO offset has no effect and no error response. -/
def Obligations.RoWriteHasNoEffect : Prop :=
  ∀ (s : State) (rest : List HostEvent) (off : BitVec 8) (v : Word),
    (off = 0x00#8 ∨ off = 0x08#8 ∨ off = 0x1C#8 ∨
      (0x28 ≤ off.toNat ∧ off.toNat ≤ 0x74 ∧ off.toNat % 4 = 0)) →
    s.pending = .write off .bits32 v :: rest → step s = .next { s with pending := rest }

/-- R51, R52, R55: an access is a bus error, a fault of the step (R53), exactly when it is not 32 bits wide, is misaligned
or is at an offset from 0x78 on. -/
def Obligations.BusErrorExactlyOnIllegalAccesses : Prop :=
  ∀ (s : State) (rest : List HostEvent) (off : BitVec 8) (size : AccessSize) (v : Word),
    (s.pending = .read off size :: rest →
      (step s = .fault .busError ↔ size ≠ .bits32 ∨ off.toNat % 4 ≠ 0 ∨ 0x78 ≤ off.toNat)) ∧
    (s.pending = .write off size v :: rest →
      (step s = .fault .busError ↔ size ≠ .bits32 ∨ off.toNat % 4 ≠ 0 ∨ 0x78 ≤ off.toNat))

/-- 10_state.md R19: a read after a write to an RW register returns the low W bits of what was written, whatever its value; and no
register ever reads with a bit at or above its width. -/
def Obligations.RegistersHoldTheirWidth : Prop :=
  (∀ (s : State) (rest : List HostEvent) (off : BitVec 8) (width : Nat) (v : Word),
    (off, width) ∈ ([(0x0C#8, 9), (0x10#8, 7), (0x14#8, 17), (0x18#8, 32), (0x20#8, 32),
      (0x24#8, 32)] : List (BitVec 8 × Nat)) →
    s.pending = .write off .bits32 v :: .read off .bits32 :: rest →
    ∃ t : State, Host.Core.run Sys2Proof.core 2 s = .next t ∧ t.pending = rest ∧
      t.readLog = BitVec.ofNat 32 (v.toNat % 2 ^ width) :: s.readLog) ∧
  (∀ (s : State) (rest : List HostEvent) (off : BitVec 8) (width : Nat),
    (off, width) ∈ ([(0x00#8, 32), (0x04#8, 0), (0x08#8, 11), (0x0C#8, 9), (0x10#8, 7), (0x14#8, 17),
      (0x18#8, 32), (0x1C#8, 32), (0x20#8, 32), (0x24#8, 32), (0x28#8, 32), (0x2C#8, 32), (0x30#8, 8),
      (0x34#8, 32), (0x38#8, 32), (0x3C#8, 8), (0x40#8, 32), (0x44#8, 32), (0x48#8, 8), (0x4C#8, 32),
      (0x50#8, 32), (0x54#8, 8), (0x58#8, 8), (0x5C#8, 32), (0x60#8, 32), (0x64#8, 32), (0x68#8, 32),
      (0x6C#8, 9), (0x70#8, 7), (0x74#8, 17)] : List (BitVec 8 × Nat)) →
    s.pending = .read off .bits32 :: rest →
    ∃ v : Word, step s = .next { s with pending := rest, readLog := v :: s.readLog } ∧ v.toNat < 2 ^ width)

/-- 20_memory.md R50: an address is at offset `off` of the window of a block based at `base` exactly when it is `base + off`; so the
window holds 256 bytes and no others. -/
def Obligations.WindowHoldsExactlyItsAddresses : Prop :=
  ∀ (base addr : Nat) (off : BitVec 8), windowOffset base addr = some off ↔ addr = base + off.toNat

/-- 20_memory.md R62, R64 (one access after another, in issue order): a run over a list of accesses does not depend on
the accesses that come after it, and leaves those to come; and 00_scope.md R4: with none to come nothing changes. -/
def Obligations.AccessesAreServedInIssueOrder : Prop :=
  (∀ (s t : State) (now later : List HostEvent),
    Host.Core.run Sys2Proof.core now.length { s with pending := now } = .next t →
    t.pending = [] ∧ Host.Core.run Sys2Proof.core now.length { s with pending := now ++ later } =
      .next { t with pending := later }) ∧
  (∀ (s : State) (k : Nat), s.pending = [] → Host.Core.run Sys2Proof.core k s = .next s)

/-- 60_exceptions.md R127, R128: every command completes in every state, changing the block only; and a step faults
exactly on a host event that is not legal. That an access during reset is such an event is the model's choice (log 11). -/
def Obligations.NoUncheckedFailure : Prop :=
  (∀ (i : Instr) (s : State), ∃ b : Block, exec i s = .next { s with block := b }) ∧
  (∀ (s : State) (e : HostEvent) (rest : List HostEvent), s.pending = e :: rest →
    (e.Legal = true → ∃ t : State, step s = .next t ∧ t.pending = rest) ∧
    (e.Legal = false → ∃ r : Fault, step s = .fault r))

/-! ## Reset -/

/-- 70_reset_and_hazards.md R129, 10_state.md R49: the hardware reset input and SOFT_RESET leave the same block, the one of State.reset. -/
def Obligations.BothResetsGiveTheResetState : Prop :=
  ∀ (s : State) (rest : List HostEvent),
    (s.pending = .hardwareReset :: rest →
      step s = .next { s with pending := rest, block := State.reset.block }) ∧
    exec .softReset s = .next { s with block := State.reset.block } ∧
    exec .softReset { s with block := State.reset.block } = .next { s with block := State.reset.block }

/-- R130: what the host reads at every mapped offset of the machine after reset. -/
def Obligations.RegisterValuesAfterReset : Prop :=
  ∀ (off : BitVec 8) (v : Word),
    (off, v) ∈ ([(0x00#8, 0x43524338#32), (0x04#8, 0), (0x08#8, 0), (0x0C#8, 0x107), (0x10#8, 0x40),
      (0x14#8, 0x199A), (0x18#8, 1), (0x1C#8, 1), (0x20#8, 0), (0x24#8, 0), (0x28#8, 0), (0x2C#8, 0),
      (0x30#8, 0), (0x34#8, 0), (0x38#8, 0), (0x3C#8, 0), (0x40#8, 0), (0x44#8, 0), (0x48#8, 0), (0x4C#8, 0),
      (0x50#8, 0), (0x54#8, 0), (0x58#8, 0), (0x5C#8, 0), (0x60#8, 0), (0x64#8, 0), (0x68#8, 0),
      (0x6C#8, 0x107), (0x70#8, 0x40), (0x74#8, 0x199A)] : List (BitVec 8 × Word)) →
    step { State.reset with pending := [.read off .bits32] } = .next { State.reset with readLog := [v] }

/-- R132: a CONFIGURE right after reset succeeds with the default configuration. -/
def Obligations.DefaultConfigureAfterReset : Prop :=
  ∃ t : State, exec .configure State.reset = .next t ∧ t.block.cfgValid = true ∧ t.block.err = false ∧
    t.block.actChunkBits.toNat = 64 ∧ t.block.actPoly.toNat = 0x107 ∧ t.block.actPThresh.toNat = 6554 ∧
    t.block.prbsState.toNat = 0x00000001

/-! ## The commands, one by one -/

/-- R109: NOP. -/
def Obligations.NopFollowsItsRule : Prop :=
  decode 0x00000000#32 = .ok .nop ∧ (∀ s : State, exec .nop s = .next s) ∧
  (∀ w : Word, w.toNat % 16 = 0 → w ≠ 0 → ∃ r, decode w = .error r)

/-- R110, R111, R120: CONFIGURE. Success writes the registers named and keeps the shadow registers and DATA; each
failing check, in its order, gives its cause and keeps everything but CFG_VALID, ERR, ERR_CAUSE and FSM. -/
def Obligations.ConfigureFollowsItsRule : Prop :=
  decode 0x00000001#32 = .ok .configure ∧
  ∀ s : State,
    (2 ≤ s.block.chunkBits.toNat ∧ s.block.chunkBits.toNat ≤ 64 ∧ s.block.poly.getLsbD 8 = true ∧
        s.block.pThresh.toNat ≤ 65536 →
      exec .configure s = .next { s with block :=
        { poly := s.block.poly, chunkBits := s.block.chunkBits, pThresh := s.block.pThresh,
          seed := s.block.seed, prbsState := if s.block.seed = 0 then 1 else s.block.seed,
          data := s.block.data, txData := 0, check := 0, txFrame := 0, rxFrame := 0, rxData := 0,
          rxCheck := 0, recomp := 0, recIndex := 0, burstCount := 0, matchCount := 0, mismatchCount := 0,
          actPoly := s.block.poly, actChunkBits := s.block.chunkBits, actPThresh := s.block.pThresh,
          cfgValid := true, err := false, errCause := .none, fsm := .idle } }) ∧
    (∀ cause : ErrCause,
      (s.block.chunkBits.toNat = 0 ∧ cause = .cfgChunkZero) ∨
      (64 < s.block.chunkBits.toNat ∧ cause = .cfgChunkTooLarge) ∨
      (s.block.chunkBits.toNat = 1 ∧ cause = .cfgPolyTooLong) ∨
      (2 ≤ s.block.chunkBits.toNat ∧ s.block.chunkBits.toNat ≤ 64 ∧ s.block.poly.getLsbD 8 = false ∧
        cause = .cfgPolyMsbZero) ∨
      (2 ≤ s.block.chunkBits.toNat ∧ s.block.chunkBits.toNat ≤ 64 ∧ s.block.poly.getLsbD 8 = true ∧
        65536 < s.block.pThresh.toNat ∧ cause = .cfgProbRange) →
      exec .configure s = .next { s with block :=
        { s.block with cfgValid := false, err := true, errCause := cause, fsm := .idle } })

/-- R78: PAD N. -/
def Obligations.PadFollowsItsRule : Prop :=
  (∀ n : Nat, n ≤ 127 → decode (0x00000002#32 ||| (BitVec.ofNat 32 n <<< 4)) = .ok (.pad n)) ∧
  ∀ (s : State) (n : Nat),
    (s.block.cfgValid = false → exec (.pad n) s = .next { s with block :=
      { s.block with err := true, errCause := .cmdNotConfigured } }) ∧
    (s.block.cfgValid = true → n = 0 ∨ s.block.actChunkBits.toNat < n → exec (.pad n) s = .next { s with block :=
      { s.block with err := true, errCause := .cmdBadLength } }) ∧
    (s.block.cfgValid = true → s.block.actChunkBits.toNat ≤ 64 → 1 ≤ n → n ≤ s.block.actChunkBits.toNat →
      ∃ d : BitVec 64, exec (.pad n) s = .next { s with block := { s.block with data := d } } ∧
        d.toNat = s.block.data.toNat % 2 ^ n * 2 ^ (s.block.actChunkBits.toNat - n))

/-- R86, with the check code of the source's own division (R82): ENCODE. -/
def Obligations.EncodeFollowsItsRule : Prop :=
  decode 0x00000003#32 = .ok .encode ∧
  ∀ s : State,
    (s.block.cfgValid = false → exec .encode s = .next { s with block :=
      { s.block with err := true, errCause := .cmdNotConfigured } }) ∧
    (s.block.cfgValid = true → s.block.fsm = .encoded ∨ s.block.fsm = .framed ∨ s.block.fsm = .channeled →
      exec .encode s = .next { s with block := { s.block with err := true, errCause := .cmdSequence } }) ∧
    (s.block.cfgValid = true → s.block.fsm = .idle ∨ s.block.fsm = .matched ∨ s.block.fsm = .mismatched →
      ∃ d : BitVec 64, exec .encode s = .next { s with block :=
          { s.block with
            txData := d
            check := divideLiteral d.toNat s.block.actChunkBits.toNat s.block.actPoly
            fsm := .encoded } } ∧
        d.toNat = s.block.data.toNat % 2 ^ s.block.actChunkBits.toNat)

/-- R101: FRAME. -/
def Obligations.FrameFollowsItsRule : Prop :=
  decode 0x00000004#32 = .ok .frame ∧
  ∀ s : State,
    (s.block.cfgValid = false → exec .frame s = .next { s with block :=
      { s.block with err := true, errCause := .cmdNotConfigured } }) ∧
    (s.block.cfgValid = true → s.block.fsm ≠ .encoded →
      exec .frame s = .next { s with block := { s.block with err := true, errCause := .cmdSequence } }) ∧
    (s.block.cfgValid = true → s.block.fsm = .encoded →
      ∃ f : BitVec 72, exec .frame s = .next { s with block := { s.block with txFrame := f, fsm := .framed } } ∧
        f.toNat = s.block.txData.toNat % 2 ^ s.block.actChunkBits.toNat * 2 ^ 8 + s.block.check.toNat)

/-- R95, with this hardware's PRBS_STEP: CORRUPT. Frame bit j is register bit n − 1 − j, and is flipped exactly when
draw j, the upper half of the generator's state j + 1 steps on, is below the threshold. -/
def Obligations.CorruptFollowsItsRule : Prop :=
  decode 0x00000005#32 = .ok .corrupt ∧
  ∀ s : State,
    (s.block.cfgValid = false → exec .corrupt s = .next { s with block :=
      { s.block with err := true, errCause := .cmdNotConfigured } }) ∧
    (s.block.cfgValid = true → s.block.fsm ≠ .framed →
      exec .corrupt s = .next { s with block := { s.block with err := true, errCause := .cmdSequence } }) ∧
    (s.block.cfgValid = true → s.block.fsm = .framed → s.block.actChunkBits.toNat ≤ 64 →
      ∃ f : BitVec 72, exec .corrupt s = .next { s with block :=
          { s.block with
            rxFrame := f
            prbsState := xorshiftStep^[s.block.actChunkBits.toNat + 8] s.block.prbsState
            fsm := .channeled } } ∧
        f.toNat < 2 ^ (s.block.actChunkBits.toNat + 8) ∧
        ∀ j : Nat, j < s.block.actChunkBits.toNat + 8 →
          f.getLsbD (s.block.actChunkBits.toNat + 8 - 1 - j) =
            (s.block.txFrame.getLsbD (s.block.actChunkBits.toNat + 8 - 1 - j) ^^
              decide ((xorshiftStep^[j + 1] s.block.prbsState).toNat / 2 ^ 16 < s.block.actPThresh.toNat)))

/-- R102, with the check code of the source's own division (R82): VERIFY. -/
def Obligations.VerifyFollowsItsRule : Prop :=
  decode 0x00000006#32 = .ok .verify ∧
  ∀ s : State,
    (s.block.cfgValid = false → exec .verify s = .next { s with block :=
      { s.block with err := true, errCause := .cmdNotConfigured } }) ∧
    (s.block.cfgValid = true → s.block.fsm ≠ .channeled →
      exec .verify s = .next { s with block := { s.block with err := true, errCause := .cmdSequence } }) ∧
    (s.block.cfgValid = true → s.block.fsm = .channeled →
      ∃ (d : BitVec 64) (k r : BitVec 8),
        d.toNat = s.block.rxFrame.toNat / 2 ^ 8 % 2 ^ s.block.actChunkBits.toNat ∧
        k.toNat = s.block.rxFrame.toNat % 2 ^ 8 ∧
        r = divideLiteral d.toNat s.block.actChunkBits.toNat s.block.actPoly ∧
        exec .verify s = .next { s with block :=
          { s.block with
            rxData := d, rxCheck := k, recomp := r
            recIndex := s.block.burstCount
            burstCount := s.block.burstCount + 1
            fsm := if r = k then .matched else .mismatched
            matchCount := if r = k then s.block.matchCount + 1 else s.block.matchCount
            mismatchCount := if r = k then s.block.mismatchCount else s.block.mismatchCount + 1 } })

/-- 44_pipeline.md R104: RUN_CHUNK ends in exactly the state that ENCODE, FRAME, CORRUPT and VERIFY leave one after another, and is
refused where its rule refuses it. -/
def Obligations.RunChunkEqualsTheFourCommands : Prop :=
  decode 0x00000007#32 = .ok .runChunk ∧
  ∀ s : State,
    (s.block.cfgValid = false → exec .runChunk s = .next { s with block :=
      { s.block with err := true, errCause := .cmdNotConfigured } }) ∧
    (s.block.cfgValid = true → s.block.fsm = .encoded ∨ s.block.fsm = .framed ∨ s.block.fsm = .channeled →
      exec .runChunk s = .next { s with block := { s.block with err := true, errCause := .cmdSequence } }) ∧
    (s.block.cfgValid = true → s.block.fsm = .idle ∨ s.block.fsm = .matched ∨ s.block.fsm = .mismatched →
      ∃ s1 s2 s3 s4 : State, exec .encode s = .next s1 ∧ exec .frame s1 = .next s2 ∧
        exec .corrupt s2 = .next s3 ∧ exec .verify s3 = .next s4 ∧ exec .runChunk s = .next s4 ∧
        s1.block.fsm = .encoded ∧ s2.block.fsm = .framed ∧ s3.block.fsm = .channeled ∧
        (s4.block.fsm = .matched ∨ s4.block.fsm = .mismatched))

/-- R112: CLEAR_ERR. -/
def Obligations.ClearErrFollowsItsRule : Prop :=
  decode 0x00000008#32 = .ok .clearErr ∧
  ∀ s : State,
    exec .clearErr s = .next { s with block := { s.block with err := false, errCause := .none } } ∧
    (s.block.err = false → s.block.errCause = .none → exec .clearErr s = .next s)

/-- R113: SOFT_RESET writes every register of the block, from any state, and leaves what hardware reset leaves; and a word
with its opcode and any other bit set is no reset. -/
def Obligations.SoftResetFollowsItsRule : Prop :=
  decode 0x0000000F#32 = .ok .softReset ∧
  (∀ s : State, exec .softReset s = .next { s with block :=
    { poly := 0x107, chunkBits := 64, pThresh := 6554, seed := 1, prbsState := 1, data := 0, txData := 0,
      check := 0, txFrame := 0, rxFrame := 0, rxData := 0, rxCheck := 0, recomp := 0, recIndex := 0,
      burstCount := 0, matchCount := 0, mismatchCount := 0, actPoly := 0x107, actChunkBits := 64,
      actPThresh := 6554, cfgValid := false, err := false, errCause := .none, fsm := .idle } }) ∧
  (∀ (s : State) (rest : List HostEvent), s.pending = .hardwareReset :: rest →
    step s = exec .softReset { s with pending := rest }) ∧
  (∀ w : Word, w.toNat % 16 = 0xF → w ≠ 0x0000000F → ∃ r, decode w = .error r)

/-! ## Rules about all commands -/

/-- R100: a pipeline command outside its "from" set is refused with CMD_SEQUENCE and changes nothing else; the check
comes after the CFG_VALID check; and no other command ever records CMD_SEQUENCE. -/
def Obligations.OutOfSequenceCommandsAreRefused : Prop :=
  (∀ (s : State) (i : Instr) (allowed : List Fsm),
    (i, allowed) ∈ ([(.encode, [.idle, .matched, .mismatched]), (.frame, [.encoded]), (.corrupt, [.framed]),
      (.verify, [.channeled]), (.runChunk, [.idle, .matched, .mismatched])] : List (Instr × List Fsm)) →
    s.block.fsm ∉ allowed →
    exec i s = .next { s with block := { s.block with
      err := true
      errCause := if s.block.cfgValid = true then .cmdSequence else .cmdNotConfigured } }) ∧
  (∀ (s t : State) (i : Instr), (i = .nop ∨ i = .configure ∨ (∃ n, i = .pad n) ∨ i = .clearErr ∨ i = .softReset) →
    exec i s = .next t → t.block.errCause = .cmdSequence → s.block.errCause = .cmdSequence)

/-- 10_state.md R23 and the second check of 60_exceptions.md R119: while CFG_VALID = 0 every data command is refused with
CMD_NOT_CONFIGURED, whatever its length operand and the pipeline state, and the other four never are. -/
def Obligations.DataCommandsNeedAConfiguration : Prop :=
  ∀ s : State, s.block.cfgValid = false →
    (∀ i : Instr, ((∃ n, i = .pad n) ∨ i = .encode ∨ i = .frame ∨ i = .corrupt ∨ i = .verify ∨ i = .runChunk) →
      exec i s = .next { s with block := { s.block with err := true, errCause := .cmdNotConfigured } }) ∧
    (∀ (i : Instr) (t : State), (i = .nop ∨ i = .configure ∨ i = .clearErr ∨ i = .softReset) →
      exec i s = .next t → t.block.errCause = .cmdNotConfigured → s.block.errCause = .cmdNotConfigured)

/-- R118: a refusal leaves the state as it was but for ERR and ERR_CAUSE. A command other than CONFIGURE is refused
exactly when it leaves ERR set in the state whose error fields are clear, whatever these fields hold; a word that
encodes no command always is. -/
def Obligations.RefusalIsPrecise : Prop :=
  (∀ (i : Instr) (s t : State), i ≠ .configure →
    exec i { s with block := { s.block with err := false, errCause := .none } } = .next t → t.block.err = true →
    exec i s = .next { s with block := { s.block with err := true, errCause := t.block.errCause } } ∧
    (t.block.errCause = .cmdNotConfigured ∨ t.block.errCause = .cmdBadLength ∨
      t.block.errCause = .cmdSequence)) ∧
  (∀ (s : State) (rest : List HostEvent) (w : Word) (r : DecodeReject),
    s.pending = .write 0x04#8 .bits32 w :: rest → decode w = .error r →
    step s = .next { s with
      pending := rest, block := { s.block with err := true, errCause := .cmdIllegal } })

/-- R99: where each command moves the pipeline state, and where it leaves it; hardware reset makes it IDLE; and no other
step changes it. -/
def Obligations.FsmMovesByTheTransitionTable : Prop :=
  (∀ (i : Instr) (s t : State), exec i s = .next t →
    let outcome := if t.block.recomp = t.block.rxCheck then Fsm.matched else Fsm.mismatched
    t.block.fsm =
      match i with
      | .nop => s.block.fsm
      | .pad _ => s.block.fsm
      | .clearErr => s.block.fsm
      | .configure => .idle
      | .softReset => .idle
      | .encode => if s.block.cfgValid = true ∧ s.block.fsm ∈ [Fsm.idle, .matched, .mismatched]
          then .encoded else s.block.fsm
      | .frame => if s.block.cfgValid = true ∧ s.block.fsm = .encoded then .framed else s.block.fsm
      | .corrupt => if s.block.cfgValid = true ∧ s.block.fsm = .framed then .channeled else s.block.fsm
      | .verify => if s.block.cfgValid = true ∧ s.block.fsm = .channeled then outcome else s.block.fsm
      | .runChunk => if s.block.cfgValid = true ∧ s.block.fsm ∈ [Fsm.idle, .matched, .mismatched]
          then outcome else s.block.fsm) ∧
  (∀ s t : State, step s = .next t → t.block.fsm ≠ s.block.fsm → ∃ rest : List HostEvent,
    (s.pending = .hardwareReset :: rest ∧ t.block.fsm = .idle) ∨
    ∃ (w : Word) (i : Instr), s.pending = .write 0x04#8 .bits32 w :: rest ∧ decode w = .ok i)

/-- 10_state.md R15 and the operand lines of every command's rule, as a host sees them: a register a command does not
name as written reads after it as before. A refused command writes STATUS only, which is named for every command that
can be refused. -/
def Obligations.CommandsWriteOnlyTheirRegisters : Prop :=
  ∀ (i : Instr) (s t : State), exec i s = .next t →
    t.pending = s.pending ∧ t.readLog = s.readLog ∧
    ∀ r : RegName, r ∉ (match i with
        | .nop => []
        | .configure => [.status, .prbsState, .txDataLo, .txDataHi, .check, .txFrame0, .txFrame1, .txFrame2,
            .rxFrame0, .rxFrame1, .rxFrame2, .rxDataLo, .rxDataHi, .rxCheck, .recomp, .recIndex, .burstCount,
            .matchCount, .mismatchCount, .actPoly, .actChunkBits, .actPThresh]
        | .pad _ => [.status, .dataLo, .dataHi]
        | .encode => [.status, .txDataLo, .txDataHi, .check]
        | .frame => [.status, .txFrame0, .txFrame1, .txFrame2]
        | .corrupt => [.status, .rxFrame0, .rxFrame1, .rxFrame2, .prbsState]
        | .verify => [.status, .rxDataLo, .rxDataHi, .rxCheck, .recomp, .recIndex, .burstCount, .matchCount,
            .mismatchCount]
        | .runChunk => [.status, .txDataLo, .txDataHi, .check, .txFrame0, .txFrame1, .txFrame2, .rxFrame0,
            .rxFrame1, .rxFrame2, .prbsState, .rxDataLo, .rxDataHi, .rxCheck, .recomp, .recIndex, .burstCount,
            .matchCount, .mismatchCount]
        | .clearErr => [.status]
        | .softReset => RegName.all.filter fun r => r ≠ .id ∧ r ≠ .cmd : List RegName) →
      t.block.readReg r = s.block.readReg r

/-- 10_state.md R32: a step changes PRBS_STATE only by CONFIGURE, CORRUPT, RUN_CHUNK, SOFT_RESET or hardware reset. -/
def Obligations.OnlyFourCommandsAndResetMoveTheGenerator : Prop :=
  ∀ s t : State, step s = .next t → t.block.prbsState ≠ s.block.prbsState →
    ∃ rest : List HostEvent, s.pending = .hardwareReset :: rest ∨
      ∃ w ∈ [0x00000001#32, 0x00000005#32, 0x00000007#32, 0x0000000F#32],
        s.pending = .write 0x04#8 .bits32 w :: rest

/-- 10_state.md R23, R45: a step changes CFG_VALID or the active configuration only by CONFIGURE, SOFT_RESET or
hardware reset. -/
def Obligations.OnlySetupChangesTheActiveConfiguration : Prop :=
  ∀ s t : State, step s = .next t →
    (t.block.cfgValid ≠ s.block.cfgValid ∨ t.block.actPoly ≠ s.block.actPoly ∨
      t.block.actChunkBits ≠ s.block.actChunkBits ∨ t.block.actPThresh ≠ s.block.actPThresh) →
    ∃ rest : List HostEvent, s.pending = .hardwareReset :: rest ∨
      ∃ w ∈ [0x00000001#32, 0x0000000F#32], s.pending = .write 0x04#8 .bits32 w :: rest

/-- 10_state.md R24, 60_exceptions.md R122: ERR, once set, stays through every step but CLEAR_ERR, CONFIGURE, SOFT_RESET
and hardware reset. -/
def Obligations.ErrorFlagIsSticky : Prop :=
  ∀ s t : State, step s = .next t → s.block.err = true → t.block.err = false →
    ∃ rest : List HostEvent, s.pending = .hardwareReset :: rest ∨
      ∃ w ∈ [0x00000001#32, 0x00000008#32, 0x0000000F#32],
        s.pending = .write 0x04#8 .bits32 w :: rest

/-- R121: a VERIFY or RUN_CHUNK that runs succeeds whatever its outcome: it leaves ERR and ERR_CAUSE as they were, and
reports MISMATCH as STATUS.MATCH = 0. The pipeline always continues: the next ENCODE or RUN_CHUNK does what it does after
MATCH. -/
def Obligations.MismatchIsReportedNeverFatal : Prop :=
  (∀ (s : State) (i : Instr), s.block.cfgValid = true →
    (i = .verify ∧ s.block.fsm = .channeled) ∨ (i = .runChunk ∧ s.block.fsm ∈ [Fsm.idle, .matched, .mismatched]) →
    ∃ t : State, exec i s = .next t ∧ t.block.err = s.block.err ∧ t.block.errCause = s.block.errCause ∧
      ((t.block.fsm = .matched ∧ (t.block.readReg .status).getLsbD 2 = true) ∨
        (t.block.fsm = .mismatched ∧ (t.block.readReg .status).getLsbD 2 = false))) ∧
  (∀ (s : State) (i : Instr), (i = .encode ∨ i = .runChunk) → s.block.cfgValid = true →
    exec i { s with block := { s.block with fsm := .mismatched } } =
      exec i { s with block := { s.block with fsm := .matched } })

/-- R133: a change of the shadow registers has no effect on any command but CONFIGURE (and SOFT_RESET, which overwrites
them). -/
def Obligations.ShadowRegistersAreInertUntilConfigure : Prop :=
  ∀ (s t : State) (i : Instr) (p : BitVec 9) (c : BitVec 7) (x : BitVec 17) (sd : Word),
    i ≠ .configure → i ≠ .softReset → exec i s = .next t →
    exec i { s with block := { s.block with poly := p, chunkBits := c, pThresh := x, seed := sd } } =
      .next { t with block := { t.block with poly := p, chunkBits := c, pThresh := x, seed := sd } }

/-- 70_reset_and_hazards.md R137: once a chunk is encoded, another value in DATA changes nothing that FRAME, CORRUPT and VERIFY do. -/
def Obligations.StagingDoesNotDisturbTheChunkInFlight : Prop :=
  ∀ (s t : State) (i : Instr) (d : BitVec 64), (i = .frame ∨ i = .corrupt ∨ i = .verify) →
    exec i s = .next t →
    exec i { s with block := { s.block with data := d } } = .next { t with block := { t.block with data := d } }

/-- 43_channel.md R97: after a successful CONFIGURE nothing of an earlier run is left; two blocks with the same shadow
registers and the same DATA are then equal, so every later command gives the same results in both. -/
def Obligations.ConfigureErasesTheEarlierRun : Prop :=
  ∀ (s1 s2 t1 t2 : State), s1.block.poly = s2.block.poly → s1.block.chunkBits = s2.block.chunkBits →
    s1.block.pThresh = s2.block.pThresh → s1.block.seed = s2.block.seed → s1.block.data = s2.block.data →
    exec .configure s1 = .next t1 → exec .configure s2 = .next t2 → t1.block.cfgValid = true →
    t1.block = t2.block

/-- 44_pipeline.md R108: the outcome of a chunk's pass depends only on the chunk, the active configuration and
PRBS_STATE. -/
def Obligations.ChunkOutcomeDependsOnThreeThings : Prop :=
  ∀ s1 s2 : State, s1.block.cfgValid = true → s2.block.cfgValid = true →
    s1.block.fsm ∈ [Fsm.idle, .matched, .mismatched] → s2.block.fsm ∈ [Fsm.idle, .matched, .mismatched] →
    s1.block.actPoly = s2.block.actPoly → s1.block.actChunkBits = s2.block.actChunkBits →
    s1.block.actPThresh = s2.block.actPThresh → s1.block.prbsState = s2.block.prbsState →
    s1.block.data.toNat % 2 ^ s1.block.actChunkBits.toNat = s2.block.data.toNat % 2 ^ s2.block.actChunkBits.toNat →
    ∃ t1 t2 : State, exec .runChunk s1 = .next t1 ∧ exec .runChunk s2 = .next t2 ∧
      t1.block.txData = t2.block.txData ∧ t1.block.check = t2.block.check ∧
      t1.block.txFrame = t2.block.txFrame ∧ t1.block.rxFrame = t2.block.rxFrame ∧
      t1.block.rxData = t2.block.rxData ∧ t1.block.rxCheck = t2.block.rxCheck ∧
      t1.block.recomp = t2.block.recomp ∧ t1.block.fsm = t2.block.fsm ∧
      t1.block.prbsState = t2.block.prbsState

/-! ## Invariants -/

/-- The invariants of the block hold at reset. -/
def Obligations.ResetStateMeetsTheInvariant : Prop := State.reset.block.Inv ∧ State.reset.block.RecordInv

/-- 10_state.md R46, R45 and 44_pipeline.md R107: every step keeps the invariants of the block. -/
def Obligations.StepKeepsTheInvariant : Prop :=
  ∀ s t : State, s.block.Inv → step s = .next t → t.block.Inv

/-- 10_state.md R47 and 44_pipeline.md R106: every step keeps the registers of the current chunk coherent. -/
def Obligations.StepKeepsTheRecordCoherent : Prop :=
  ∀ s t : State, s.block.Inv → s.block.RecordInv → step s = .next t → t.block.RecordInv

/-- R46, R107: what holds in every state reachable from reset, whatever the host does. FSM ∈ 0..5 and the codes of
ERR_CAUSE are read from STATUS. -/
def Obligations.ReachableStatesKeepTheStatedInvariants : Prop :=
  ∀ s : State, Reachable s →
    s.block.prbsState ≠ 0 ∧
    (s.block.readReg .status).toNat / 2 ^ 8 % 2 ^ 3 ≤ 5 ∧
    (s.block.readReg .status).toNat / 2 ^ 4 % 2 ^ 4 ∈ [0x0, 0x1, 0x2, 0x3, 0x4, 0x5, 0x8, 0x9, 0xA, 0xB] ∧
    (s.block.cfgValid = true →
      s.block.txData.toNat < 2 ^ s.block.actChunkBits.toNat ∧
      s.block.rxData.toNat < 2 ^ s.block.actChunkBits.toNat ∧
      s.block.txFrame.toNat < 2 ^ (s.block.actChunkBits.toNat + 8) ∧
      s.block.rxFrame.toNat < 2 ^ (s.block.actChunkBits.toNat + 8)) ∧
    (s.block.err = false → s.block.errCause = .none) ∧
    s.block.burstCount.toNat = (s.block.matchCount.toNat + s.block.mismatchCount.toNat) % 2 ^ 32

/-- 44_pipeline.md R106, R101, R102: in every reachable state with FSM ∈ (MATCH, MISMATCH) the record in the registers is
that of one chunk: its frame is its data and its check code, the received frame is RX_DATA and RX_CHECK, RECOMP is
recomputed from RX_DATA by the source's division, and MATCH is their comparison. -/
def Obligations.ReachableRecordsAreCoherent : Prop :=
  ∀ s : State, Reachable s → s.block.fsm = .matched ∨ s.block.fsm = .mismatched →
    s.block.check = divideLiteral s.block.txData.toNat s.block.actChunkBits.toNat s.block.actPoly ∧
    s.block.txFrame.toNat = s.block.txData.toNat * 2 ^ 8 + s.block.check.toNat ∧
    s.block.rxFrame.toNat = s.block.rxData.toNat * 2 ^ 8 + s.block.rxCheck.toNat ∧
    s.block.recomp = divideLiteral s.block.rxData.toNat s.block.actChunkBits.toNat s.block.actPoly ∧
    (s.block.fsm = .matched ↔ s.block.recomp = s.block.rxCheck) ∧
    s.block.burstCount = s.block.recIndex + 1

/-! ## The division -/

/-- R83: the register form, bit after bit with the first bit first; it is the source's division for every length, value
and polynomial; and neither reads P[8]. -/
def Obligations.RegisterFormEqualsTheNormativeDivision : Prop :=
  (∀ (v : Nat) (P : BitVec 9), crc8 v 0 P = 0) ∧
  (∀ (v L : Nat) (bit : Bool) (P : BitVec 9), crc8 (2 * v + bit.toNat) (L + 1) P =
    if ((crc8 v L P).getLsbD 7 ^^ bit) = true then (crc8 v L P <<< 1) ^^^ BitVec.ofNat 8 P.toNat
    else crc8 v L P <<< 1) ∧
  (∀ (v L : Nat) (P : BitVec 9), 1 ≤ L → v < 2 ^ L → crc8 v L P = divideLiteral v L P) ∧
  (∀ (v L : Nat) (P Q : BitVec 9), 1 ≤ L → v < 2 ^ L → P.toNat % 2 ^ 8 = Q.toNat % 2 ^ 8 →
    crc8 v L P = crc8 v L Q ∧ divideLiteral v L P = divideLiteral v L Q)

/-- R84: with P[8] = 1, the check code is the remainder of V(x)·x^8 on division by P(x) over GF(2). -/
def Obligations.CheckCodeIsThePolynomialRemainder : Prop :=
  ∀ (v L : Nat) (P : BitVec 9), 1 ≤ L → v < 2 ^ L → P.getLsbD 8 = true →
    bitsPoly 8 (crc8 v L P).toNat = (bitsPoly L v * Polynomial.X ^ 8) %ₘ bitsPoly 9 P.toNat

/-- R85: linearity, zero, leading zeros, and the two values that show that trailing zeros matter. -/
def Obligations.LawsOfTheCheckCode : Prop :=
  (∀ (a b L : Nat) (P : BitVec 9), crc8 (a ^^^ b) L P = crc8 a L P ^^^ crc8 b L P) ∧
  (∀ (L : Nat) (P : BitVec 9), crc8 0 L P = 0) ∧
  (∀ (v L L' : Nat) (P : BitVec 9), v < 2 ^ L → L ≤ L' → crc8 v L' P = crc8 v L P) ∧
  crc8 0x41 8 0x107 = 0xC0 ∧ crc8 0x4100000000000000 64 0x107 = 0xCF

/-- R87: the exact codeword divides with an all-zero remainder; and so does TX_FRAME whenever it belongs to the current
chunk, that is, from FRAME on (R47). -/
def Obligations.CodewordDividesWithZeroRemainder : Prop :=
  (∀ (D c : Nat) (P : BitVec 9), 1 ≤ c → D < 2 ^ c → P.getLsbD 8 = true →
    crc8 (D * 2 ^ 8 + (crc8 D c P).toNat) (c + 8) P = 0) ∧
  (∀ b : Block, b.Inv → b.RecordInv → b.fsm ∈ [Fsm.framed, .channeled, .matched, .mismatched] →
    crc8 b.txFrame.toNat (b.actChunkBits.toNat + 8) b.actPoly = 0)

/-- R103: VERIFY reaches MATCH exactly when the received frame's polynomial is a multiple of P(x); with P[0] = 1 that is
`crc8(RX, n, P) = 0`. -/
def Obligations.VerifyIsDivisionOfTheReceivedFrame : Prop :=
  ∀ s : State, s.block.cfgValid = true → s.block.fsm = .channeled → s.block.ConfigLegal →
    ∃ t : State, exec .verify s = .next t ∧
      (t.block.fsm = .matched ↔
        bitsPoly 9 s.block.actPoly.toNat ∣ bitsPoly (s.block.actChunkBits.toNat + 8) s.block.rxFrame.toNat) ∧
      (s.block.actPoly.getLsbD 0 = true → (t.block.fsm = .matched ↔
        crc8 s.block.rxFrame.toNat (s.block.actChunkBits.toNat + 8) s.block.actPoly = 0))

/-- 42_crc.md R88, its first sentence and (a): VERIFY of a frame with an error pattern Err reports a mismatch exactly
when Err(x) is not a multiple of P(x). -/
def Obligations.DetectionIsExactlyNonDivisibility : Prop :=
  ∀ (s : State) (errors : Nat), s.block.cfgValid = true → s.block.fsm = .channeled → s.block.ConfigLegal →
    s.block.txData.toNat < 2 ^ s.block.actChunkBits.toNat → errors < 2 ^ (s.block.actChunkBits.toNat + 8) →
    s.block.rxFrame.toNat = (s.block.txData.toNat * 2 ^ 8 +
      (divideLiteral s.block.txData.toNat s.block.actChunkBits.toNat s.block.actPoly).toNat) ^^^ errors →
    ∃ t : State, exec .verify s = .next t ∧
      (t.block.fsm = .mismatched ↔
        ¬ bitsPoly 9 s.block.actPoly.toNat ∣ bitsPoly (s.block.actChunkBits.toNat + 8) errors)

/-- 42_crc.md R88 (b), 93_implementation_defined.md I1: an error pattern P(x)·x^j passes undetected. -/
def Obligations.MultiplesOfThePolynomialPassUndetected : Prop :=
  ∀ (s : State) (j : Nat), s.block.cfgValid = true → s.block.fsm = .channeled → s.block.ConfigLegal →
    s.block.txData.toNat < 2 ^ s.block.actChunkBits.toNat → j ≤ s.block.actChunkBits.toNat + 8 - 9 →
    s.block.rxFrame.toNat = (s.block.txData.toNat * 2 ^ 8 +
      (divideLiteral s.block.txData.toNat s.block.actChunkBits.toNat s.block.actPoly).toNat) ^^^
        (s.block.actPoly.toNat * 2 ^ j) →
    ∃ t : State, exec .verify s = .next t ∧ t.block.fsm = .matched

/-- 42_crc.md R88 (c): with P = 0x107 every single-bit error is detected, for every chunk size from 2 to 64. -/
def Obligations.SingleBitErrorsAreDetected : Prop :=
  ∀ (s : State) (j : Nat), s.block.cfgValid = true → s.block.fsm = .channeled →
    s.block.actPoly = 0x107 → 2 ≤ s.block.actChunkBits.toNat → s.block.actChunkBits.toNat ≤ 64 →
    s.block.txData.toNat < 2 ^ s.block.actChunkBits.toNat → j < s.block.actChunkBits.toNat + 8 →
    s.block.rxFrame.toNat = (s.block.txData.toNat * 2 ^ 8 +
      (divideLiteral s.block.txData.toNat s.block.actChunkBits.toNat s.block.actPoly).toNat) ^^^ 2 ^ j →
    ∃ t : State, exec .verify s = .next t ∧ t.block.fsm = .mismatched

/-! ## The channel -/

/-- R91: this hardware's PRBS_STEP is the function of the rule, is an invertible linear map that fixes 0, keeps a
nonzero state nonzero, and gives the rule's first states; and the commands and the step of this hardware are those of the
machine that takes PRBS_STEP as an argument, at this function. -/
def Obligations.PrbsStepIsTheXorshift : Prop :=
  (∀ s : Word, ∃ a b : Word, a = s ^^^ (s <<< 13) ∧ b = a ^^^ (a >>> 17) ∧
    xorshiftStep s = b ^^^ (b <<< 5)) ∧
  Function.Bijective xorshiftStep ∧ (∀ a b : Word, xorshiftStep (a ^^^ b) = xorshiftStep a ^^^ xorshiftStep b) ∧
  xorshiftStep 0 = 0 ∧ (∀ (s : Word) (k : Nat), s ≠ 0 → xorshiftStep^[k] s ≠ 0) ∧
  xorshiftStep^[1] 1 = 0x00042021 ∧ xorshiftStep^[2] 1 = 0x04080601 ∧ xorshiftStep^[3] 1 = 0x9DCCA8C5 ∧
  xorshiftStep^[4] 1 = 0x1255994F ∧ xorshiftStep^[5] 1 = 0x8EF917D1 ∧ xorshiftStep^[6] 1 = 0x2C6F5BD0 ∧
  (∀ (i : Instr) (s : State), execWith xorshiftStep i s = exec i s) ∧
  (∀ s : State, stepWith xorshiftStep s = step s)

/-- R96, for every PRBS_STEP: CORRUPT takes one draw per frame bit in transmission order, draw j deciding register bit
n − 1 − j and no other, and leaves a generator state that depends on nothing but n and the state before. -/
def Obligations.OneDrawPerFrameBitInOrder : Prop :=
  ∀ (prbsStep : Word → Word) (s : State), s.block.cfgValid = true → s.block.fsm = .framed →
    s.block.actChunkBits.toNat ≤ 64 →
    ∃ t : State, execWith prbsStep .corrupt s = .next t ∧
      t.block.prbsState = prbsStep^[s.block.actChunkBits.toNat + 8] s.block.prbsState ∧
      ∀ j : Nat, j < s.block.actChunkBits.toNat + 8 →
        t.block.rxFrame.getLsbD (s.block.actChunkBits.toNat + 8 - 1 - j) =
          (s.block.txFrame.getLsbD (s.block.actChunkBits.toNat + 8 - 1 - j) ^^
            decide ((prbsStep^[j + 1] s.block.prbsState).toNat / 2 ^ 16 < s.block.actPThresh.toNat))

/-- 43_channel.md R98, for every PRBS_STEP: CORRUPT at T = 0 is the identity on the frame and at T = 65536 its bitwise
complement. -/
def Obligations.ChannelBoundaryLaws : Prop :=
  ∀ (prbsStep : Word → Word) (s : State), s.block.cfgValid = true → s.block.fsm = .framed →
    s.block.actChunkBits.toNat ≤ 64 → s.block.txFrame.toNat < 2 ^ (s.block.actChunkBits.toNat + 8) →
    ∃ t : State, execWith prbsStep .corrupt s = .next t ∧
      (s.block.actPThresh = 0 → t.block.rxFrame = s.block.txFrame) ∧
      (s.block.actPThresh = 65536 →
        t.block.rxFrame.toNat = 2 ^ (s.block.actChunkBits.toNat + 8) - 1 - s.block.txFrame.toNat)

/-- 44_pipeline.md R104, R102 and 42_crc.md R87, for every PRBS_STEP and then for this hardware's: without noise every
chunk ends in MATCH, with the received frame the transmitted one, for every legal configuration. -/
def Obligations.NoiselessChunkAlwaysMatches : Prop :=
  ∀ s : State, s.block.cfgValid = true → s.block.fsm ∈ [Fsm.idle, .matched, .mismatched] → s.block.ConfigLegal →
    s.block.actPThresh = 0 →
    (∀ prbsStep : Word → Word, ∃ t : State, execWith prbsStep .runChunk s = .next t ∧ t.block.fsm = .matched) ∧
    ∃ t : State, exec .runChunk s = .next t ∧ t.block.fsm = .matched ∧ t.block.rxFrame = t.block.txFrame ∧
      t.block.rxData = t.block.txData ∧ t.block.matchCount = s.block.matchCount + 1 ∧
      t.block.mismatchCount = s.block.mismatchCount

/-- 42_crc.md R88 (d), 44_pipeline.md R104, for every PRBS_STEP and then for this hardware's: with every bit flipped and
P = 0x107 every chunk ends in MISMATCH, for every chunk size from 2 to 64. -/
def Obligations.ComplementingChannelAlwaysMismatches : Prop :=
  ∀ s : State, s.block.cfgValid = true → s.block.fsm ∈ [Fsm.idle, .matched, .mismatched] →
    s.block.actPoly = 0x107 → 2 ≤ s.block.actChunkBits.toNat → s.block.actChunkBits.toNat ≤ 64 →
    s.block.actPThresh = 65536 →
    (∀ prbsStep : Word → Word, ∃ t : State, execWith prbsStep .runChunk s = .next t ∧
      t.block.fsm = .mismatched) ∧
    ∃ t : State, exec .runChunk s = .next t ∧ t.block.fsm = .mismatched ∧
      t.block.rxFrame.toNat = 2 ^ (s.block.actChunkBits.toNat + 8) - 1 - t.block.txFrame.toNat

/-! ## The host's side -/

/-- 41_framer.md R79: the host's partition of a bit string into windows of c bits. -/
def Obligations.PartitionIsTheSourcesSplit : Prop :=
  ∀ (c : Nat) (bits : List Bool), 1 ≤ c →
    (splitBits c bits).flatten = bits ∧
    (splitBits c bits).length = (bits.length + c - 1) / c ∧
    (∀ w ∈ splitBits c bits, 1 ≤ w.length ∧ w.length ≤ c) ∧
    (∀ w ∈ (splitBits c bits).dropLast, w.length = c)

/-- 30_encoding.md R77 (`chunk v, n`) with 41_framer.md R78, R80: the three accesses of the pseudo-instruction stage the
n valid bits of v as a zero-padded chunk. -/
def Obligations.ChunkPseudoInstructionStagesAPaddedChunk : Prop :=
  ∀ (s : State) (v : BitVec 64) (n : Nat) (rest : List HostEvent), s.block.cfgValid = true →
    s.block.actChunkBits.toNat ≤ 64 → 1 ≤ n → n ≤ s.block.actChunkBits.toNat →
    s.pending = (HostLine.chunk v n).events ++ rest →
    ∃ d : BitVec 64, Host.Core.run Sys2Proof.core 3 s =
        .next { s with pending := rest, block := { s.block with data := d } } ∧
      d.toNat = v.toNat % 2 ^ n * 2 ^ (s.block.actChunkBits.toNat - n)
end

