-- ==== Sys2Proof/Laws/State.lean ====
section
/-! SUPPORT. One lemma per field per update, so that no later proof unfolds a record update. -/

namespace Sys2Proof.Machine

/-! ## The host's side of the state -/

@[simp] theorem State.onBlock_block (s : State) (f : Block → Block) : (s.onBlock f).block = f s.block := rfl
@[simp] theorem State.onBlock_pending (s : State) (f : Block → Block) : (s.onBlock f).pending = s.pending := rfl
@[simp] theorem State.onBlock_readLog (s : State) (f : Block → Block) : (s.onBlock f).readLog = s.readLog := rfl
@[simp] theorem State.logRead_block (s : State) (v : Word) : (s.logRead v).block = s.block := rfl
@[simp] theorem State.logRead_pending (s : State) (v : Word) : (s.logRead v).pending = s.pending := rfl
@[simp] theorem State.logRead_readLog (s : State) (v : Word) : (s.logRead v).readLog = v :: s.readLog := rfl
@[simp] theorem State.issue_block (s : State) (e : Option HostEvent) : (s.issue e).block = s.block := rfl
@[simp] theorem State.issue_pending (s : State) (e : Option HostEvent) :
    (s.issue e).pending = s.pending ++ e.toList := rfl
@[simp] theorem State.issue_readLog (s : State) (e : Option HostEvent) : (s.issue e).readLog = s.readLog := rfl

/-! ## Refusal (R118) -/

@[simp] theorem Block.raise_poly (cause : ErrCause) (b : Block) : (b.raise cause).poly = b.poly := rfl
@[simp] theorem Block.raise_chunkBits (cause : ErrCause) (b : Block) : (b.raise cause).chunkBits =
    b.chunkBits := rfl
@[simp] theorem Block.raise_pThresh (cause : ErrCause) (b : Block) : (b.raise cause).pThresh = b.pThresh := rfl
@[simp] theorem Block.raise_seed (cause : ErrCause) (b : Block) : (b.raise cause).seed = b.seed := rfl
@[simp] theorem Block.raise_prbsState (cause : ErrCause) (b : Block) : (b.raise cause).prbsState =
    b.prbsState := rfl
@[simp] theorem Block.raise_data (cause : ErrCause) (b : Block) : (b.raise cause).data = b.data := rfl
@[simp] theorem Block.raise_txData (cause : ErrCause) (b : Block) : (b.raise cause).txData = b.txData := rfl
@[simp] theorem Block.raise_check (cause : ErrCause) (b : Block) : (b.raise cause).check = b.check := rfl
@[simp] theorem Block.raise_txFrame (cause : ErrCause) (b : Block) : (b.raise cause).txFrame = b.txFrame := rfl
@[simp] theorem Block.raise_rxFrame (cause : ErrCause) (b : Block) : (b.raise cause).rxFrame = b.rxFrame := rfl
@[simp] theorem Block.raise_rxData (cause : ErrCause) (b : Block) : (b.raise cause).rxData = b.rxData := rfl
@[simp] theorem Block.raise_rxCheck (cause : ErrCause) (b : Block) : (b.raise cause).rxCheck = b.rxCheck := rfl
@[simp] theorem Block.raise_recomp (cause : ErrCause) (b : Block) : (b.raise cause).recomp = b.recomp := rfl
@[simp] theorem Block.raise_recIndex (cause : ErrCause) (b : Block) : (b.raise cause).recIndex = b.recIndex := rfl
@[simp] theorem Block.raise_burstCount (cause : ErrCause) (b : Block) : (b.raise cause).burstCount =
    b.burstCount := rfl
@[simp] theorem Block.raise_matchCount (cause : ErrCause) (b : Block) : (b.raise cause).matchCount =
    b.matchCount := rfl
@[simp] theorem Block.raise_mismatchCount (cause : ErrCause) (b : Block) : (b.raise cause).mismatchCount =
    b.mismatchCount := rfl
@[simp] theorem Block.raise_actPoly (cause : ErrCause) (b : Block) : (b.raise cause).actPoly = b.actPoly := rfl
@[simp] theorem Block.raise_actChunkBits (cause : ErrCause) (b : Block) : (b.raise cause).actChunkBits =
    b.actChunkBits := rfl
@[simp] theorem Block.raise_actPThresh (cause : ErrCause) (b : Block) : (b.raise cause).actPThresh =
    b.actPThresh := rfl
@[simp] theorem Block.raise_cfgValid (cause : ErrCause) (b : Block) : (b.raise cause).cfgValid = b.cfgValid := rfl
@[simp] theorem Block.raise_err (cause : ErrCause) (b : Block) : (b.raise cause).err = true := rfl
@[simp] theorem Block.raise_errCause (cause : ErrCause) (b : Block) : (b.raise cause).errCause = cause := rfl
@[simp] theorem Block.raise_fsm (cause : ErrCause) (b : Block) : (b.raise cause).fsm = b.fsm := rfl

/-! ## Failure of CONFIGURE (R111) -/

@[simp] theorem Block.failConfigure_poly (cause : ErrCause) (b : Block) : (b.failConfigure cause).poly =
    b.poly := rfl
@[simp] theorem Block.failConfigure_chunkBits (cause : ErrCause) (b : Block) : (b.failConfigure cause).chunkBits =
    b.chunkBits := rfl
@[simp] theorem Block.failConfigure_pThresh (cause : ErrCause) (b : Block) : (b.failConfigure cause).pThresh =
    b.pThresh := rfl
@[simp] theorem Block.failConfigure_seed (cause : ErrCause) (b : Block) : (b.failConfigure cause).seed =
    b.seed := rfl
@[simp] theorem Block.failConfigure_prbsState (cause : ErrCause) (b : Block) : (b.failConfigure cause).prbsState =
    b.prbsState := rfl
@[simp] theorem Block.failConfigure_data (cause : ErrCause) (b : Block) : (b.failConfigure cause).data =
    b.data := rfl
@[simp] theorem Block.failConfigure_txData (cause : ErrCause) (b : Block) : (b.failConfigure cause).txData =
    b.txData := rfl
@[simp] theorem Block.failConfigure_check (cause : ErrCause) (b : Block) : (b.failConfigure cause).check =
    b.check := rfl
@[simp] theorem Block.failConfigure_txFrame (cause : ErrCause) (b : Block) : (b.failConfigure cause).txFrame =
    b.txFrame := rfl
@[simp] theorem Block.failConfigure_rxFrame (cause : ErrCause) (b : Block) : (b.failConfigure cause).rxFrame =
    b.rxFrame := rfl
@[simp] theorem Block.failConfigure_rxData (cause : ErrCause) (b : Block) : (b.failConfigure cause).rxData =
    b.rxData := rfl
@[simp] theorem Block.failConfigure_rxCheck (cause : ErrCause) (b : Block) : (b.failConfigure cause).rxCheck =
    b.rxCheck := rfl
@[simp] theorem Block.failConfigure_recomp (cause : ErrCause) (b : Block) : (b.failConfigure cause).recomp =
    b.recomp := rfl
@[simp] theorem Block.failConfigure_recIndex (cause : ErrCause) (b : Block) : (b.failConfigure cause).recIndex =
    b.recIndex := rfl
@[simp] theorem Block.failConfigure_burstCount (cause : ErrCause) (b : Block) : (b.failConfigure cause).burstCount =
    b.burstCount := rfl
@[simp] theorem Block.failConfigure_matchCount (cause : ErrCause) (b : Block) : (b.failConfigure cause).matchCount =
    b.matchCount := rfl
@[simp] theorem Block.failConfigure_mismatchCount (cause : ErrCause) (b : Block) : (b.failConfigure cause).mismatchCount =
    b.mismatchCount := rfl
@[simp] theorem Block.failConfigure_actPoly (cause : ErrCause) (b : Block) : (b.failConfigure cause).actPoly =
    b.actPoly := rfl
@[simp] theorem Block.failConfigure_actChunkBits (cause : ErrCause) (b : Block) : (b.failConfigure cause).actChunkBits =
    b.actChunkBits := rfl
@[simp] theorem Block.failConfigure_actPThresh (cause : ErrCause) (b : Block) : (b.failConfigure cause).actPThresh =
    b.actPThresh := rfl
@[simp] theorem Block.failConfigure_cfgValid (cause : ErrCause) (b : Block) : (b.failConfigure cause).cfgValid =
    false := rfl
@[simp] theorem Block.failConfigure_err (cause : ErrCause) (b : Block) : (b.failConfigure cause).err = true := rfl
@[simp] theorem Block.failConfigure_errCause (cause : ErrCause) (b : Block) : (b.failConfigure cause).errCause =
    cause := rfl
@[simp] theorem Block.failConfigure_fsm (cause : ErrCause) (b : Block) : (b.failConfigure cause).fsm = .idle := rfl

/-! ## Clearing the error fields (R112) -/

@[simp] theorem Block.clearError_poly (b : Block) : (b.clearError).poly = b.poly := rfl
@[simp] theorem Block.clearError_chunkBits (b : Block) : (b.clearError).chunkBits = b.chunkBits := rfl
@[simp] theorem Block.clearError_pThresh (b : Block) : (b.clearError).pThresh = b.pThresh := rfl
@[simp] theorem Block.clearError_seed (b : Block) : (b.clearError).seed = b.seed := rfl
@[simp] theorem Block.clearError_prbsState (b : Block) : (b.clearError).prbsState = b.prbsState := rfl
@[simp] theorem Block.clearError_data (b : Block) : (b.clearError).data = b.data := rfl
@[simp] theorem Block.clearError_txData (b : Block) : (b.clearError).txData = b.txData := rfl
@[simp] theorem Block.clearError_check (b : Block) : (b.clearError).check = b.check := rfl
@[simp] theorem Block.clearError_txFrame (b : Block) : (b.clearError).txFrame = b.txFrame := rfl
@[simp] theorem Block.clearError_rxFrame (b : Block) : (b.clearError).rxFrame = b.rxFrame := rfl
@[simp] theorem Block.clearError_rxData (b : Block) : (b.clearError).rxData = b.rxData := rfl
@[simp] theorem Block.clearError_rxCheck (b : Block) : (b.clearError).rxCheck = b.rxCheck := rfl
@[simp] theorem Block.clearError_recomp (b : Block) : (b.clearError).recomp = b.recomp := rfl
@[simp] theorem Block.clearError_recIndex (b : Block) : (b.clearError).recIndex = b.recIndex := rfl
@[simp] theorem Block.clearError_burstCount (b : Block) : (b.clearError).burstCount = b.burstCount := rfl
@[simp] theorem Block.clearError_matchCount (b : Block) : (b.clearError).matchCount = b.matchCount := rfl
@[simp] theorem Block.clearError_mismatchCount (b : Block) : (b.clearError).mismatchCount = b.mismatchCount := rfl
@[simp] theorem Block.clearError_actPoly (b : Block) : (b.clearError).actPoly = b.actPoly := rfl
@[simp] theorem Block.clearError_actChunkBits (b : Block) : (b.clearError).actChunkBits = b.actChunkBits := rfl
@[simp] theorem Block.clearError_actPThresh (b : Block) : (b.clearError).actPThresh = b.actPThresh := rfl
@[simp] theorem Block.clearError_cfgValid (b : Block) : (b.clearError).cfgValid = b.cfgValid := rfl
@[simp] theorem Block.clearError_err (b : Block) : (b.clearError).err = false := rfl
@[simp] theorem Block.clearError_errCause (b : Block) : (b.clearError).errCause = .none := rfl
@[simp] theorem Block.clearError_fsm (b : Block) : (b.clearError).fsm = b.fsm := rfl

/-! ## PAD (R78) -/

@[simp] theorem Block.padBody_poly (n : Nat) (b : Block) : (b.padBody n).poly = b.poly := rfl
@[simp] theorem Block.padBody_chunkBits (n : Nat) (b : Block) : (b.padBody n).chunkBits = b.chunkBits := rfl
@[simp] theorem Block.padBody_pThresh (n : Nat) (b : Block) : (b.padBody n).pThresh = b.pThresh := rfl
@[simp] theorem Block.padBody_seed (n : Nat) (b : Block) : (b.padBody n).seed = b.seed := rfl
@[simp] theorem Block.padBody_prbsState (n : Nat) (b : Block) : (b.padBody n).prbsState = b.prbsState := rfl
@[simp] theorem Block.padBody_data (n : Nat) (b : Block) : (b.padBody n).data =
    zextLow n b.data <<< (b.chunkSize - n) := rfl
@[simp] theorem Block.padBody_txData (n : Nat) (b : Block) : (b.padBody n).txData = b.txData := rfl
@[simp] theorem Block.padBody_check (n : Nat) (b : Block) : (b.padBody n).check = b.check := rfl
@[simp] theorem Block.padBody_txFrame (n : Nat) (b : Block) : (b.padBody n).txFrame = b.txFrame := rfl
@[simp] theorem Block.padBody_rxFrame (n : Nat) (b : Block) : (b.padBody n).rxFrame = b.rxFrame := rfl
@[simp] theorem Block.padBody_rxData (n : Nat) (b : Block) : (b.padBody n).rxData = b.rxData := rfl
@[simp] theorem Block.padBody_rxCheck (n : Nat) (b : Block) : (b.padBody n).rxCheck = b.rxCheck := rfl
@[simp] theorem Block.padBody_recomp (n : Nat) (b : Block) : (b.padBody n).recomp = b.recomp := rfl
@[simp] theorem Block.padBody_recIndex (n : Nat) (b : Block) : (b.padBody n).recIndex = b.recIndex := rfl
@[simp] theorem Block.padBody_burstCount (n : Nat) (b : Block) : (b.padBody n).burstCount = b.burstCount := rfl
@[simp] theorem Block.padBody_matchCount (n : Nat) (b : Block) : (b.padBody n).matchCount = b.matchCount := rfl
@[simp] theorem Block.padBody_mismatchCount (n : Nat) (b : Block) : (b.padBody n).mismatchCount =
    b.mismatchCount := rfl
@[simp] theorem Block.padBody_actPoly (n : Nat) (b : Block) : (b.padBody n).actPoly = b.actPoly := rfl
@[simp] theorem Block.padBody_actChunkBits (n : Nat) (b : Block) : (b.padBody n).actChunkBits =
    b.actChunkBits := rfl
@[simp] theorem Block.padBody_actPThresh (n : Nat) (b : Block) : (b.padBody n).actPThresh = b.actPThresh := rfl
@[simp] theorem Block.padBody_cfgValid (n : Nat) (b : Block) : (b.padBody n).cfgValid = b.cfgValid := rfl
@[simp] theorem Block.padBody_err (n : Nat) (b : Block) : (b.padBody n).err = b.err := rfl
@[simp] theorem Block.padBody_errCause (n : Nat) (b : Block) : (b.padBody n).errCause = b.errCause := rfl
@[simp] theorem Block.padBody_fsm (n : Nat) (b : Block) : (b.padBody n).fsm = b.fsm := rfl

/-! ## ENCODE (R86) -/

@[simp] theorem Block.encodeBody_poly (b : Block) : (b.encodeBody).poly = b.poly := rfl
@[simp] theorem Block.encodeBody_chunkBits (b : Block) : (b.encodeBody).chunkBits = b.chunkBits := rfl
@[simp] theorem Block.encodeBody_pThresh (b : Block) : (b.encodeBody).pThresh = b.pThresh := rfl
@[simp] theorem Block.encodeBody_seed (b : Block) : (b.encodeBody).seed = b.seed := rfl
@[simp] theorem Block.encodeBody_prbsState (b : Block) : (b.encodeBody).prbsState = b.prbsState := rfl
@[simp] theorem Block.encodeBody_data (b : Block) : (b.encodeBody).data = b.data := rfl
@[simp] theorem Block.encodeBody_txData (b : Block) : (b.encodeBody).txData = zextLow b.chunkSize b.data := rfl
@[simp] theorem Block.encodeBody_check (b : Block) : (b.encodeBody).check =
    crc8 (zextLow b.chunkSize b.data).toNat b.chunkSize b.actPoly := rfl
@[simp] theorem Block.encodeBody_txFrame (b : Block) : (b.encodeBody).txFrame = b.txFrame := rfl
@[simp] theorem Block.encodeBody_rxFrame (b : Block) : (b.encodeBody).rxFrame = b.rxFrame := rfl
@[simp] theorem Block.encodeBody_rxData (b : Block) : (b.encodeBody).rxData = b.rxData := rfl
@[simp] theorem Block.encodeBody_rxCheck (b : Block) : (b.encodeBody).rxCheck = b.rxCheck := rfl
@[simp] theorem Block.encodeBody_recomp (b : Block) : (b.encodeBody).recomp = b.recomp := rfl
@[simp] theorem Block.encodeBody_recIndex (b : Block) : (b.encodeBody).recIndex = b.recIndex := rfl
@[simp] theorem Block.encodeBody_burstCount (b : Block) : (b.encodeBody).burstCount = b.burstCount := rfl
@[simp] theorem Block.encodeBody_matchCount (b : Block) : (b.encodeBody).matchCount = b.matchCount := rfl
@[simp] theorem Block.encodeBody_mismatchCount (b : Block) : (b.encodeBody).mismatchCount = b.mismatchCount := rfl
@[simp] theorem Block.encodeBody_actPoly (b : Block) : (b.encodeBody).actPoly = b.actPoly := rfl
@[simp] theorem Block.encodeBody_actChunkBits (b : Block) : (b.encodeBody).actChunkBits = b.actChunkBits := rfl
@[simp] theorem Block.encodeBody_actPThresh (b : Block) : (b.encodeBody).actPThresh = b.actPThresh := rfl
@[simp] theorem Block.encodeBody_cfgValid (b : Block) : (b.encodeBody).cfgValid = b.cfgValid := rfl
@[simp] theorem Block.encodeBody_err (b : Block) : (b.encodeBody).err = b.err := rfl
@[simp] theorem Block.encodeBody_errCause (b : Block) : (b.encodeBody).errCause = b.errCause := rfl
@[simp] theorem Block.encodeBody_fsm (b : Block) : (b.encodeBody).fsm = .encoded := rfl

/-! ## FRAME (R101) -/

@[simp] theorem Block.frameBody_poly (b : Block) : (b.frameBody).poly = b.poly := rfl
@[simp] theorem Block.frameBody_chunkBits (b : Block) : (b.frameBody).chunkBits = b.chunkBits := rfl
@[simp] theorem Block.frameBody_pThresh (b : Block) : (b.frameBody).pThresh = b.pThresh := rfl
@[simp] theorem Block.frameBody_seed (b : Block) : (b.frameBody).seed = b.seed := rfl
@[simp] theorem Block.frameBody_prbsState (b : Block) : (b.frameBody).prbsState = b.prbsState := rfl
@[simp] theorem Block.frameBody_data (b : Block) : (b.frameBody).data = b.data := rfl
@[simp] theorem Block.frameBody_txData (b : Block) : (b.frameBody).txData = b.txData := rfl
@[simp] theorem Block.frameBody_check (b : Block) : (b.frameBody).check = b.check := rfl
@[simp] theorem Block.frameBody_txFrame (b : Block) : (b.frameBody).txFrame =
    frameOf b.chunkSize b.txData b.check := rfl
@[simp] theorem Block.frameBody_rxFrame (b : Block) : (b.frameBody).rxFrame = b.rxFrame := rfl
@[simp] theorem Block.frameBody_rxData (b : Block) : (b.frameBody).rxData = b.rxData := rfl
@[simp] theorem Block.frameBody_rxCheck (b : Block) : (b.frameBody).rxCheck = b.rxCheck := rfl
@[simp] theorem Block.frameBody_recomp (b : Block) : (b.frameBody).recomp = b.recomp := rfl
@[simp] theorem Block.frameBody_recIndex (b : Block) : (b.frameBody).recIndex = b.recIndex := rfl
@[simp] theorem Block.frameBody_burstCount (b : Block) : (b.frameBody).burstCount = b.burstCount := rfl
@[simp] theorem Block.frameBody_matchCount (b : Block) : (b.frameBody).matchCount = b.matchCount := rfl
@[simp] theorem Block.frameBody_mismatchCount (b : Block) : (b.frameBody).mismatchCount = b.mismatchCount := rfl
@[simp] theorem Block.frameBody_actPoly (b : Block) : (b.frameBody).actPoly = b.actPoly := rfl
@[simp] theorem Block.frameBody_actChunkBits (b : Block) : (b.frameBody).actChunkBits = b.actChunkBits := rfl
@[simp] theorem Block.frameBody_actPThresh (b : Block) : (b.frameBody).actPThresh = b.actPThresh := rfl
@[simp] theorem Block.frameBody_cfgValid (b : Block) : (b.frameBody).cfgValid = b.cfgValid := rfl
@[simp] theorem Block.frameBody_err (b : Block) : (b.frameBody).err = b.err := rfl
@[simp] theorem Block.frameBody_errCause (b : Block) : (b.frameBody).errCause = b.errCause := rfl
@[simp] theorem Block.frameBody_fsm (b : Block) : (b.frameBody).fsm = .framed := rfl

/-! ## CORRUPT (R95) -/

@[simp] theorem Block.corruptBody_poly (prbsStep : Word → Word) (b : Block) : (b.corruptBody prbsStep).poly =
    b.poly := rfl
@[simp] theorem Block.corruptBody_chunkBits (prbsStep : Word → Word) (b : Block) : (b.corruptBody prbsStep).chunkBits =
    b.chunkBits := rfl
@[simp] theorem Block.corruptBody_pThresh (prbsStep : Word → Word) (b : Block) : (b.corruptBody prbsStep).pThresh =
    b.pThresh := rfl
@[simp] theorem Block.corruptBody_seed (prbsStep : Word → Word) (b : Block) : (b.corruptBody prbsStep).seed =
    b.seed := rfl
@[simp] theorem Block.corruptBody_prbsState (prbsStep : Word → Word) (b : Block) : (b.corruptBody prbsStep).prbsState =
    (corruptFrame prbsStep b.actPThresh b.frameSize b.txFrame b.prbsState).2 := rfl
@[simp] theorem Block.corruptBody_data (prbsStep : Word → Word) (b : Block) : (b.corruptBody prbsStep).data =
    b.data := rfl
@[simp] theorem Block.corruptBody_txData (prbsStep : Word → Word) (b : Block) : (b.corruptBody prbsStep).txData =
    b.txData := rfl
@[simp] theorem Block.corruptBody_check (prbsStep : Word → Word) (b : Block) : (b.corruptBody prbsStep).check =
    b.check := rfl
@[simp] theorem Block.corruptBody_txFrame (prbsStep : Word → Word) (b : Block) : (b.corruptBody prbsStep).txFrame =
    b.txFrame := rfl
@[simp] theorem Block.corruptBody_rxFrame (prbsStep : Word → Word) (b : Block) : (b.corruptBody prbsStep).rxFrame =
    (corruptFrame prbsStep b.actPThresh b.frameSize b.txFrame b.prbsState).1 := rfl
@[simp] theorem Block.corruptBody_rxData (prbsStep : Word → Word) (b : Block) : (b.corruptBody prbsStep).rxData =
    b.rxData := rfl
@[simp] theorem Block.corruptBody_rxCheck (prbsStep : Word → Word) (b : Block) : (b.corruptBody prbsStep).rxCheck =
    b.rxCheck := rfl
@[simp] theorem Block.corruptBody_recomp (prbsStep : Word → Word) (b : Block) : (b.corruptBody prbsStep).recomp =
    b.recomp := rfl
@[simp] theorem Block.corruptBody_recIndex (prbsStep : Word → Word) (b : Block) : (b.corruptBody prbsStep).recIndex =
    b.recIndex := rfl
@[simp] theorem Block.corruptBody_burstCount (prbsStep : Word → Word) (b : Block) : (b.corruptBody prbsStep).burstCount =
    b.burstCount := rfl
@[simp] theorem Block.corruptBody_matchCount (prbsStep : Word → Word) (b : Block) : (b.corruptBody prbsStep).matchCount =
    b.matchCount := rfl
@[simp] theorem Block.corruptBody_mismatchCount (prbsStep : Word → Word) (b : Block) : (b.corruptBody prbsStep).mismatchCount =
    b.mismatchCount := rfl
@[simp] theorem Block.corruptBody_actPoly (prbsStep : Word → Word) (b : Block) : (b.corruptBody prbsStep).actPoly =
    b.actPoly := rfl
@[simp] theorem Block.corruptBody_actChunkBits (prbsStep : Word → Word) (b : Block) : (b.corruptBody prbsStep).actChunkBits =
    b.actChunkBits := rfl
@[simp] theorem Block.corruptBody_actPThresh (prbsStep : Word → Word) (b : Block) : (b.corruptBody prbsStep).actPThresh =
    b.actPThresh := rfl
@[simp] theorem Block.corruptBody_cfgValid (prbsStep : Word → Word) (b : Block) : (b.corruptBody prbsStep).cfgValid =
    b.cfgValid := rfl
@[simp] theorem Block.corruptBody_err (prbsStep : Word → Word) (b : Block) : (b.corruptBody prbsStep).err =
    b.err := rfl
@[simp] theorem Block.corruptBody_errCause (prbsStep : Word → Word) (b : Block) : (b.corruptBody prbsStep).errCause =
    b.errCause := rfl
@[simp] theorem Block.corruptBody_fsm (prbsStep : Word → Word) (b : Block) : (b.corruptBody prbsStep).fsm =
    .channeled := rfl

/-! ## VERIFY's record (R102) -/

@[simp] theorem Block.recordBody_poly (b : Block) : (b.recordBody).poly = b.poly := rfl
@[simp] theorem Block.recordBody_chunkBits (b : Block) : (b.recordBody).chunkBits = b.chunkBits := rfl
@[simp] theorem Block.recordBody_pThresh (b : Block) : (b.recordBody).pThresh = b.pThresh := rfl
@[simp] theorem Block.recordBody_seed (b : Block) : (b.recordBody).seed = b.seed := rfl
@[simp] theorem Block.recordBody_prbsState (b : Block) : (b.recordBody).prbsState = b.prbsState := rfl
@[simp] theorem Block.recordBody_data (b : Block) : (b.recordBody).data = b.data := rfl
@[simp] theorem Block.recordBody_txData (b : Block) : (b.recordBody).txData = b.txData := rfl
@[simp] theorem Block.recordBody_check (b : Block) : (b.recordBody).check = b.check := rfl
@[simp] theorem Block.recordBody_txFrame (b : Block) : (b.recordBody).txFrame = b.txFrame := rfl
@[simp] theorem Block.recordBody_rxFrame (b : Block) : (b.recordBody).rxFrame = b.rxFrame := rfl
@[simp] theorem Block.recordBody_rxData (b : Block) : (b.recordBody).rxData = dataPart b.chunkSize b.rxFrame := rfl
@[simp] theorem Block.recordBody_rxCheck (b : Block) : (b.recordBody).rxCheck = checkPart b.rxFrame := rfl
@[simp] theorem Block.recordBody_recomp (b : Block) : (b.recordBody).recomp =
    crc8 (dataPart b.chunkSize b.rxFrame).toNat b.chunkSize b.actPoly := rfl
@[simp] theorem Block.recordBody_recIndex (b : Block) : (b.recordBody).recIndex = b.burstCount := rfl
@[simp] theorem Block.recordBody_burstCount (b : Block) : (b.recordBody).burstCount = b.burstCount + 1 := rfl
@[simp] theorem Block.recordBody_matchCount (b : Block) : (b.recordBody).matchCount = b.matchCount := rfl
@[simp] theorem Block.recordBody_mismatchCount (b : Block) : (b.recordBody).mismatchCount = b.mismatchCount := rfl
@[simp] theorem Block.recordBody_actPoly (b : Block) : (b.recordBody).actPoly = b.actPoly := rfl
@[simp] theorem Block.recordBody_actChunkBits (b : Block) : (b.recordBody).actChunkBits = b.actChunkBits := rfl
@[simp] theorem Block.recordBody_actPThresh (b : Block) : (b.recordBody).actPThresh = b.actPThresh := rfl
@[simp] theorem Block.recordBody_cfgValid (b : Block) : (b.recordBody).cfgValid = b.cfgValid := rfl
@[simp] theorem Block.recordBody_err (b : Block) : (b.recordBody).err = b.err := rfl
@[simp] theorem Block.recordBody_errCause (b : Block) : (b.recordBody).errCause = b.errCause := rfl
@[simp] theorem Block.recordBody_fsm (b : Block) : (b.recordBody).fsm = b.fsm := rfl

/-! ## CONFIGURE's success (R110) -/

@[simp] theorem Block.startRun_poly (b : Block) : (b.startRun).poly = b.poly := rfl
@[simp] theorem Block.startRun_chunkBits (b : Block) : (b.startRun).chunkBits = b.chunkBits := rfl
@[simp] theorem Block.startRun_pThresh (b : Block) : (b.startRun).pThresh = b.pThresh := rfl
@[simp] theorem Block.startRun_seed (b : Block) : (b.startRun).seed = b.seed := rfl
@[simp] theorem Block.startRun_prbsState (b : Block) : (b.startRun).prbsState = seededState b.seed := rfl
@[simp] theorem Block.startRun_data (b : Block) : (b.startRun).data = b.data := rfl
@[simp] theorem Block.startRun_txData (b : Block) : (b.startRun).txData = 0 := rfl
@[simp] theorem Block.startRun_check (b : Block) : (b.startRun).check = 0 := rfl
@[simp] theorem Block.startRun_txFrame (b : Block) : (b.startRun).txFrame = 0 := rfl
@[simp] theorem Block.startRun_rxFrame (b : Block) : (b.startRun).rxFrame = 0 := rfl
@[simp] theorem Block.startRun_rxData (b : Block) : (b.startRun).rxData = 0 := rfl
@[simp] theorem Block.startRun_rxCheck (b : Block) : (b.startRun).rxCheck = 0 := rfl
@[simp] theorem Block.startRun_recomp (b : Block) : (b.startRun).recomp = 0 := rfl
@[simp] theorem Block.startRun_recIndex (b : Block) : (b.startRun).recIndex = 0 := rfl
@[simp] theorem Block.startRun_burstCount (b : Block) : (b.startRun).burstCount = 0 := rfl
@[simp] theorem Block.startRun_matchCount (b : Block) : (b.startRun).matchCount = 0 := rfl
@[simp] theorem Block.startRun_mismatchCount (b : Block) : (b.startRun).mismatchCount = 0 := rfl
@[simp] theorem Block.startRun_actPoly (b : Block) : (b.startRun).actPoly = b.poly := rfl
@[simp] theorem Block.startRun_actChunkBits (b : Block) : (b.startRun).actChunkBits = b.chunkBits := rfl
@[simp] theorem Block.startRun_actPThresh (b : Block) : (b.startRun).actPThresh = b.pThresh := rfl
@[simp] theorem Block.startRun_cfgValid (b : Block) : (b.startRun).cfgValid = true := rfl
@[simp] theorem Block.startRun_err (b : Block) : (b.startRun).err = false := rfl
@[simp] theorem Block.startRun_errCause (b : Block) : (b.startRun).errCause = .none := rfl
@[simp] theorem Block.startRun_fsm (b : Block) : (b.startRun).fsm = .idle := rfl

/-! ## VERIFY's outcome (R102) -/

@[simp] theorem Block.judgeBody_poly (b : Block) : b.judgeBody.poly = b.poly := by
  unfold Block.judgeBody
  split <;> rfl
@[simp] theorem Block.judgeBody_chunkBits (b : Block) : b.judgeBody.chunkBits = b.chunkBits := by
  unfold Block.judgeBody
  split <;> rfl
@[simp] theorem Block.judgeBody_pThresh (b : Block) : b.judgeBody.pThresh = b.pThresh := by
  unfold Block.judgeBody
  split <;> rfl
@[simp] theorem Block.judgeBody_seed (b : Block) : b.judgeBody.seed = b.seed := by
  unfold Block.judgeBody
  split <;> rfl
@[simp] theorem Block.judgeBody_prbsState (b : Block) : b.judgeBody.prbsState = b.prbsState := by
  unfold Block.judgeBody
  split <;> rfl
@[simp] theorem Block.judgeBody_data (b : Block) : b.judgeBody.data = b.data := by
  unfold Block.judgeBody
  split <;> rfl
@[simp] theorem Block.judgeBody_txData (b : Block) : b.judgeBody.txData = b.txData := by
  unfold Block.judgeBody
  split <;> rfl
@[simp] theorem Block.judgeBody_check (b : Block) : b.judgeBody.check = b.check := by
  unfold Block.judgeBody
  split <;> rfl
@[simp] theorem Block.judgeBody_txFrame (b : Block) : b.judgeBody.txFrame = b.txFrame := by
  unfold Block.judgeBody
  split <;> rfl
@[simp] theorem Block.judgeBody_rxFrame (b : Block) : b.judgeBody.rxFrame = b.rxFrame := by
  unfold Block.judgeBody
  split <;> rfl
@[simp] theorem Block.judgeBody_rxData (b : Block) : b.judgeBody.rxData = b.rxData := by
  unfold Block.judgeBody
  split <;> rfl
@[simp] theorem Block.judgeBody_rxCheck (b : Block) : b.judgeBody.rxCheck = b.rxCheck := by
  unfold Block.judgeBody
  split <;> rfl
@[simp] theorem Block.judgeBody_recomp (b : Block) : b.judgeBody.recomp = b.recomp := by
  unfold Block.judgeBody
  split <;> rfl
@[simp] theorem Block.judgeBody_recIndex (b : Block) : b.judgeBody.recIndex = b.recIndex := by
  unfold Block.judgeBody
  split <;> rfl
@[simp] theorem Block.judgeBody_burstCount (b : Block) : b.judgeBody.burstCount = b.burstCount := by
  unfold Block.judgeBody
  split <;> rfl
@[simp] theorem Block.judgeBody_matchCount (b : Block) : b.judgeBody.matchCount =
    if b.recomp = b.rxCheck then b.matchCount + 1 else b.matchCount := by
  unfold Block.judgeBody
  split <;> rfl
@[simp] theorem Block.judgeBody_mismatchCount (b : Block) : b.judgeBody.mismatchCount =
    if b.recomp = b.rxCheck then b.mismatchCount else b.mismatchCount + 1 := by
  unfold Block.judgeBody
  split <;> rfl
@[simp] theorem Block.judgeBody_actPoly (b : Block) : b.judgeBody.actPoly = b.actPoly := by
  unfold Block.judgeBody
  split <;> rfl
@[simp] theorem Block.judgeBody_actChunkBits (b : Block) : b.judgeBody.actChunkBits = b.actChunkBits := by
  unfold Block.judgeBody
  split <;> rfl
@[simp] theorem Block.judgeBody_actPThresh (b : Block) : b.judgeBody.actPThresh = b.actPThresh := by
  unfold Block.judgeBody
  split <;> rfl
@[simp] theorem Block.judgeBody_cfgValid (b : Block) : b.judgeBody.cfgValid = b.cfgValid := by
  unfold Block.judgeBody
  split <;> rfl
@[simp] theorem Block.judgeBody_err (b : Block) : b.judgeBody.err = b.err := by
  unfold Block.judgeBody
  split <;> rfl
@[simp] theorem Block.judgeBody_errCause (b : Block) : b.judgeBody.errCause = b.errCause := by
  unfold Block.judgeBody
  split <;> rfl
@[simp] theorem Block.judgeBody_fsm (b : Block) : b.judgeBody.fsm =
    if b.recomp = b.rxCheck then Fsm.matched else Fsm.mismatched := by
  unfold Block.judgeBody
  split <;> rfl

/-! ## The active sizes -/

@[simp] theorem Block.raise_chunkSize (cause : ErrCause) (b : Block) : (b.raise cause).chunkSize =
    b.chunkSize := rfl
@[simp] theorem Block.raise_frameSize (cause : ErrCause) (b : Block) : (b.raise cause).frameSize =
    b.frameSize := rfl
@[simp] theorem Block.encodeBody_chunkSize (b : Block) : (b.encodeBody).chunkSize = b.chunkSize := rfl
@[simp] theorem Block.encodeBody_frameSize (b : Block) : (b.encodeBody).frameSize = b.frameSize := rfl
@[simp] theorem Block.frameBody_chunkSize (b : Block) : (b.frameBody).chunkSize = b.chunkSize := rfl
@[simp] theorem Block.frameBody_frameSize (b : Block) : (b.frameBody).frameSize = b.frameSize := rfl
@[simp] theorem Block.corruptBody_chunkSize (prbsStep : Word → Word) (b : Block) : (b.corruptBody prbsStep).chunkSize =
    b.chunkSize := rfl
@[simp] theorem Block.corruptBody_frameSize (prbsStep : Word → Word) (b : Block) : (b.corruptBody prbsStep).frameSize =
    b.frameSize := rfl
@[simp] theorem Block.recordBody_chunkSize (b : Block) : (b.recordBody).chunkSize = b.chunkSize := rfl
@[simp] theorem Block.recordBody_frameSize (b : Block) : (b.recordBody).frameSize = b.frameSize := rfl
@[simp] theorem Block.judgeBody_chunkSize (b : Block) : b.judgeBody.chunkSize = b.chunkSize := by
  simp [Block.chunkSize]
@[simp] theorem Block.judgeBody_frameSize (b : Block) : b.judgeBody.frameSize = b.frameSize := by
  simp [Block.frameSize]

end Sys2Proof.Machine
end

