-- ==== Sys2Proof/Laws/Ops.lean ====
section
/-! SUPPORT. What the shared operations do, one lemma each: bit slices as arithmetic on values, the checks of R119, and
the meaning of each command as an action on the block. -/

namespace Sys2Proof.Machine

/-! ## The parameters of 00_scope.md R7 -/

@[simp] theorem polyBits_eq : Config.polyBits = 9 := rfl
@[simp] theorem checkBits_eq : Config.checkBits = 8 := rfl
@[simp] theorem maxChunkBits_eq : Config.maxChunkBits = 64 := rfl
@[simp] theorem maxThresh_eq : Config.maxThresh = 65536 := rfl

/-! ## Slices -/

theorem zextLow_toNat {w : Nat} (n : Nat) (v : BitVec w) : (zextLow n v).toNat = v.toNat % 2 ^ n := by
  simp only [zextLow, BitVec.toNat_setWidth]
  exact Nat.mod_eq_of_lt (lt_of_le_of_lt (Nat.mod_le _ _) v.isLt)

theorem zextLow_getLsbD {w : Nat} (n : Nat) (v : BitVec w) (i : Nat) :
    (zextLow n v).getLsbD i = (decide (i < n) && v.getLsbD i) := by
  by_cases h : i < w
  · simp [zextLow, BitVec.getLsbD_setWidth, h]
  · simp [BitVec.getLsbD_of_ge _ _ (Nat.le_of_not_lt h)]

theorem zextLow_eq_self {w : Nat} {n : Nat} {v : BitVec w} (h : v.toNat < 2 ^ n) : zextLow n v = v := by
  apply BitVec.eq_of_toNat_eq
  rw [zextLow_toNat, Nat.mod_eq_of_lt h]

theorem frameOf_toNat (c : Nat) (chunk : BitVec 64) (check : BitVec 8) :
    (frameOf c chunk check).toNat = chunk.toNat % 2 ^ c * 2 ^ 8 + check.toNat := by
  have hc := check.isLt
  have hm : chunk.toNat % 2 ^ c < 2 ^ 64 := lt_of_le_of_lt (Nat.mod_le _ _) chunk.isLt
  simp only [frameOf, BitVec.toNat_setWidth, BitVec.toNat_append]
  rw [← Nat.shiftLeft_add_eq_or_of_lt hc, Nat.shiftLeft_eq]
  exact Nat.mod_eq_of_lt (by omega)

theorem dataPart_toNat (c : Nat) (frame : BitVec 72) :
    (dataPart c frame).toNat = frame.toNat / 2 ^ 8 % 2 ^ c := by
  have hf := frame.isLt
  have : frame.toNat / 2 ^ 8 % 2 ^ c ≤ frame.toNat / 2 ^ 8 := Nat.mod_le _ _
  simp only [dataPart, checkBits_eq, BitVec.toNat_setWidth, BitVec.extractLsb'_toNat,
    Nat.shiftRight_eq_div_pow]
  exact Nat.mod_eq_of_lt (by omega)

theorem checkPart_toNat (frame : BitVec 72) : (checkPart frame).toNat = frame.toNat % 2 ^ 8 := by
  simp [checkPart, BitVec.toNat_setWidth]

theorem padBody_data_toNat {n : Nat} {b : Block} (hc : b.chunkSize ≤ 64) (hn : n ≤ b.chunkSize) :
    (b.padBody n).data.toNat = b.data.toNat % 2 ^ n * 2 ^ (b.chunkSize - n) := by
  have hlt : b.data.toNat % 2 ^ n * 2 ^ (b.chunkSize - n) < 2 ^ 64 := by
    calc b.data.toNat % 2 ^ n * 2 ^ (b.chunkSize - n)
        < 2 ^ n * 2 ^ (b.chunkSize - n) :=
          Nat.mul_lt_mul_of_pos_right (Nat.mod_lt _ (by positivity)) (by positivity)
      _ = 2 ^ b.chunkSize := by rw [← Nat.pow_add]; congr 1; omega
      _ ≤ 2 ^ 64 := Nat.pow_le_pow_right (by decide) hc
  rw [Block.padBody_data, BitVec.toNat_shiftLeft, zextLow_toNat, Nat.shiftLeft_eq, Nat.mod_eq_of_lt hlt]

/-! ## The checks of R119 -/

/-- Everything the CFG_VALID check can do. -/
theorem Block.ifConfigured_cases (body : Block → Block) (b : Block) :
    (b.cfgValid = true ∧ b.ifConfigured body = body b) ∨
      (b.cfgValid = false ∧ b.ifConfigured body = b.raise .cmdNotConfigured) := by
  cases h : b.cfgValid <;> simp [Block.ifConfigured, h]

/-- Everything the CFG_VALID check and the sequence check can do. -/
theorem Block.ifSequenced_cases (allowed : Fsm → Bool) (body : Block → Block) (b : Block) :
    (b.cfgValid = true ∧ allowed b.fsm = true ∧ b.ifSequenced allowed body = body b) ∨
      (b.cfgValid = true ∧ allowed b.fsm = false ∧ b.ifSequenced allowed body = b.raise .cmdSequence) ∨
      (b.cfgValid = false ∧ b.ifSequenced allowed body = b.raise .cmdNotConfigured) := by
  cases h : b.cfgValid <;> cases h' : allowed b.fsm <;> simp [Block.ifSequenced, Block.ifConfigured, h, h']

theorem Block.ifSequenced_runs {allowed : Fsm → Bool} {b : Block} (body : Block → Block)
    (hv : b.cfgValid = true) (ha : allowed b.fsm = true) : b.ifSequenced allowed body = body b := by
  simp [Block.ifSequenced, Block.ifConfigured, hv, ha]

theorem Block.ifSequenced_out_of_order {allowed : Fsm → Bool} {b : Block} (body : Block → Block)
    (hv : b.cfgValid = true) (ha : allowed b.fsm = false) :
    b.ifSequenced allowed body = b.raise .cmdSequence := by
  simp [Block.ifSequenced, Block.ifConfigured, hv, ha]

theorem Block.ifSequenced_unconfigured {b : Block} (allowed : Fsm → Bool) (body : Block → Block)
    (hv : b.cfgValid = false) : b.ifSequenced allowed body = b.raise .cmdNotConfigured := by
  simp [Block.ifSequenced, Block.ifConfigured, hv]

/-- Everything PAD can do (R78). -/
theorem Block.padCommand_cases (n : Nat) (b : Block) :
    (b.cfgValid = true ∧ n ≠ 0 ∧ n ≤ b.chunkSize ∧ b.padCommand n = b.padBody n) ∨
      (b.cfgValid = true ∧ (n = 0 ∨ b.chunkSize < n) ∧ b.padCommand n = b.raise .cmdBadLength) ∨
      (b.cfgValid = false ∧ b.padCommand n = b.raise .cmdNotConfigured) := by
  rcases Block.ifConfigured_cases (fun b => if n = 0 ∨ n > b.chunkSize then b.raise .cmdBadLength else b.padBody n) b
    with ⟨hv, h⟩ | ⟨hv, h⟩
  · by_cases hn : n = 0 ∨ n > b.chunkSize
    · exact .inr (.inl ⟨hv, hn, h.trans (if_pos hn)⟩)
    · exact .inl ⟨hv, by omega, by omega, h.trans (if_neg hn)⟩
  · exact .inr (.inr ⟨hv, h⟩)

/-- Everything CONFIGURE can do (R110, R111). -/
theorem Block.configureCommand_cases (b : Block) :
    (b.configureCheck = none ∧ b.configureCommand = b.startRun) ∨
      ∃ cause, b.configureCheck = some cause ∧ b.configureCommand = b.failConfigure cause := by
  unfold Block.configureCommand
  cases h : b.configureCheck with
  | none => exact .inl ⟨rfl, rfl⟩
  | some cause => exact .inr ⟨cause, rfl, rfl⟩

/-- A CONFIGURE that succeeds has found the shadow configuration legal (R110). -/
theorem Block.configureCheck_none {b : Block} (h : b.configureCheck = none) :
    2 ≤ b.chunkBits.toNat ∧ b.chunkBits.toNat ≤ Config.maxChunkBits ∧ b.poly.msb = true ∧
      b.pThresh.toNat ≤ Config.maxThresh := by
  unfold Block.configureCheck at h
  simp only [polyBits_eq, checkBits_eq, maxChunkBits_eq, maxThresh_eq] at h ⊢
  by_cases h0 : b.chunkBits.toNat = 0
  · simp [h0] at h
  by_cases h1 : b.chunkBits.toNat > 64
  · simp [h0, h1] at h
  by_cases h2 : 9 ≥ b.chunkBits.toNat + 8
  · simp [h0, h1, h2] at h
  by_cases h3 : b.poly.msb = false
  · simp [h0, h1, h2, h3] at h
  by_cases h4 : b.pThresh.toNat > 65536
  · simp [h0, h1, h2, h3, h4] at h
  exact ⟨by omega, by omega, by simpa using h3, by omega⟩

/-! ## The commands as actions on the block -/

/-- What each command does to the block (30_encoding.md R71). -/
def blockOf : Instr → Block → Block
  | .nop => id
  | .configure => Block.configureCommand
  | .pad n => Block.padCommand n
  | .encode => Block.encodeCommand
  | .frame => Block.frameCommand
  | .corrupt => Block.corruptCommand xorshiftStep
  | .verify => Block.verifyCommand
  | .runChunk => Block.runChunkCommand xorshiftStep
  | .clearErr => Block.clearError
  | .softReset => Block.resetAll

/-- Every command acts on the block alone, and always answers a next state. -/
theorem exec_eq_onBlock (i : Instr) (s : State) : exec i s = .next (s.onBlock (blockOf i)) := by
  cases i <;> rfl

theorem exec_next {i : Instr} {s t : State} (h : exec i s = .next t) : t = s.onBlock (blockOf i) := by
  rw [exec_eq_onBlock] at h
  exact (Host.Outcome.next.inj h).symm

end Sys2Proof.Machine
end

