-- ==== Sys2Proof/Laws/Bus.lean ====
section
/-! SUPPORT. What one step can do: the register map is one to one, an access reaches a register exactly when it is
legal, and every step is one of the kinds of `step_cases`. -/

namespace Sys2Proof.Machine

/-! ## The register map -/

theorem RegName.atOffset_offset (r : RegName) : RegName.atOffset r.offset = some r := by
  cases r <;> decide

theorem RegName.offset_of_atOffset {off : BitVec 8} {r : RegName} (h : RegName.atOffset off = some r) :
    r.offset = off := by
  simpa using List.find?_some h

/-- An aligned offset holds a register exactly when it is below 0x78 (R52, R55). -/
theorem RegName.atOffset_isSome (off : BitVec 8) :
    (RegName.atOffset off).isSome = (decide (off.toNat % 4 = 0) && decide (off.toNat < 0x78)) := by
  revert off
  decide

theorem accessTarget_eq_some {off : BitVec 8} {size : AccessSize} {r : RegName} :
    accessTarget off size = some r ↔ size = .bits32 ∧ off = r.offset := by
  constructor
  · intro h
    cases size <;> simp only [accessTarget, reduceCtorEq] at h
    split at h
    · exact ⟨rfl, (RegName.offset_of_atOffset h).symm⟩
    · cases h
  · rintro ⟨rfl, rfl⟩
    have h : r.offset.toNat % 4 = 0 := by cases r <;> decide
    simp [accessTarget, h, RegName.atOffset_offset]

theorem accessTarget_offset (r : RegName) : accessTarget r.offset .bits32 = some r :=
  accessTarget_eq_some.2 ⟨rfl, rfl⟩

/-- An access is a bus error exactly when it is not 32 bits wide, is misaligned or is unmapped (R51, R52, R55). -/
theorem accessTarget_eq_none {off : BitVec 8} {size : AccessSize} :
    accessTarget off size = none ↔ size ≠ .bits32 ∨ off.toNat % 4 ≠ 0 ∨ 0x78 ≤ off.toNat := by
  cases size <;> simp only [accessTarget, ne_eq, reduceCtorEq, not_false_eq_true, true_or, not_true_eq_false,
    false_or]
  split
  · rename_i h
    rw [← Option.isNone_iff_eq_none, ← Option.not_isSome, RegName.atOffset_isSome]
    simp [h]
  · rename_i h
    simp [h]

/-! ## The accesses -/

theorem serveRead_reg (r : RegName) (s : State) :
    serveRead r.offset .bits32 s = .next (s.logRead (s.block.readReg r)) := by
  simp [serveRead, accessTarget_offset]

theorem serveWrite_reg (execute : Executor) (r : RegName) (v : Word) (s : State) :
    serveWrite execute r.offset .bits32 v s = writeTarget execute r v s := by
  simp [serveWrite, accessTarget_offset]

theorem runCommand_ok {execute : Executor} {w : Word} {i : Instr} (h : decode w = .ok i) (s : State) :
    runCommand execute w s = execute i s := by
  simp [runCommand, h]

theorem runCommand_error {execute : Executor} {w : Word} {r : DecodeReject} (h : decode w = .error r) (s : State) :
    runCommand execute w s = .next (s.onBlock (Block.raise .cmdIllegal)) := by
  simp [runCommand, h]

/-! ## One step -/

theorem stepHost_nil (execute : Executor) {s : State} (h : s.pending = []) : stepHost execute s = .next s := by
  simp [stepHost, h]

theorem stepHost_cons (execute : Executor) {s : State} {e : HostEvent} {rest : List HostEvent}
    (h : s.pending = e :: rest) : stepHost execute s = serve execute e { s with pending := rest } := by
  simp [stepHost, h]

/-- A step on a CMD write is the command of its word (R59). -/
theorem stepHost_cmdWrite (execute : Executor) {s : State} {w : Word} {rest : List HostEvent}
    (h : s.pending = cmdWrite w :: rest) : stepHost execute s = runCommand execute w { s with pending := rest } := by
  rw [stepHost_cons execute h]
  exact serveWrite_reg execute .cmd w _

theorem step_nil {s : State} (h : s.pending = []) : step s = .next s := stepHost_nil exec h

theorem step_cons {s : State} {e : HostEvent} {rest : List HostEvent} (h : s.pending = e :: rest) :
    step s = serve exec e { s with pending := rest } := stepHost_cons exec h

theorem step_cmdWrite {s : State} {w : Word} {rest : List HostEvent} (h : s.pending = cmdWrite w :: rest) :
    step s = runCommand exec w { s with pending := rest } := stepHost_cmdWrite exec h

/-- Everything a step that answers a next state has done: nothing; a read; a write that stores; a write that is ignored;
a command; a refused word; or a hardware reset. -/
theorem step_cases {s t : State} (h : step s = .next t) :
    (s.pending = [] ∧ t = s) ∨
    ∃ rest, (∃ r : RegName, s.pending = .read r.offset .bits32 :: rest ∧
        t = { s with pending := rest, readLog := s.block.readReg r :: s.readLog }) ∨
      (∃ (r : RegName) (v : Word), s.pending = .write r.offset .bits32 v :: rest ∧ r.access = .rw ∧
        t = { s with pending := rest, block := s.block.writeReg r v }) ∨
      (∃ (r : RegName) (v : Word), s.pending = .write r.offset .bits32 v :: rest ∧ r.access = .ro ∧ t = { s with pending := rest }) ∨
      (∃ w i, s.pending = cmdWrite w :: rest ∧ decode w = .ok i ∧
        t = { s with pending := rest, block := blockOf i s.block }) ∨
      (∃ w r, s.pending = cmdWrite w :: rest ∧ decode w = .error r ∧
        t = { s with pending := rest, block := s.block.raise .cmdIllegal }) ∨
      (s.pending = .hardwareReset :: rest ∧ t = { s with pending := rest, block := Block.reset }) := by
  cases hp : s.pending with
  | nil =>
    rw [step_nil hp] at h
    exact .inl ⟨rfl, (Host.Outcome.next.inj h).symm⟩
  | cons e rest =>
    rw [step_cons hp] at h
    refine .inr ⟨rest, ?_⟩
    cases e with
    | read off size =>
      simp only [serve, serveRead] at h
      cases ht : accessTarget off size with
      | none => simp [ht] at h
      | some r =>
        obtain ⟨rfl, rfl⟩ := accessTarget_eq_some.1 ht
        simp only [ht] at h
        exact .inl ⟨r, rfl, (Host.Outcome.next.inj h).symm⟩
    | write off size v =>
      simp only [serve, serveWrite] at h
      cases ht : accessTarget off size with
      | none => simp [ht] at h
      | some r =>
        obtain ⟨rfl, rfl⟩ := accessTarget_eq_some.1 ht
        simp only [ht, writeTarget] at h
        cases ha : r.access with
        | rw =>
          simp only [ha] at h
          exact .inr (.inl ⟨r, v, rfl, ha, (Host.Outcome.next.inj h).symm⟩)
        | ro =>
          simp only [ha] at h
          exact .inr (.inr (.inl ⟨r, v, rfl, ha, (Host.Outcome.next.inj h).symm⟩))
        | wo =>
          simp only [ha] at h
          obtain rfl : r = .cmd := by cases r <;> simp_all [RegName.access]
          cases hd : decode v with
          | ok i =>
            rw [runCommand_ok hd] at h
            exact .inr (.inr (.inr (.inl ⟨v, i, rfl, hd, exec_next h⟩)))
          | error e =>
            rw [runCommand_error hd] at h
            exact .inr (.inr (.inr (.inr (.inl ⟨v, e, rfl, hd, (Host.Outcome.next.inj h).symm⟩))))
    | hardwareReset => exact .inr (.inr (.inr (.inr (.inr ⟨rfl, (Host.Outcome.next.inj h).symm⟩))))
    | accessDuringReset => cases h

end Sys2Proof.Machine
end

