-- ==== Sys2Proof/Laws/AnyGenerator.lean ====
section
/-! SUPPORT. The machine of every PRBS_STEP: what its commands do to the block, that it differs from this hardware's in
CORRUPT and RUN_CHUNK only, and that at the xorshift it is this hardware's. -/

namespace Sys2Proof.Machine

@[simp] theorem execWith_corrupt (prbsStep : Word → Word) (s : State) :
    execWith prbsStep .corrupt s = .next (s.onBlock (Block.corruptCommand prbsStep)) := rfl

@[simp] theorem execWith_runChunk (prbsStep : Word → Word) (s : State) :
    execWith prbsStep .runChunk s = .next (s.onBlock (Block.runChunkCommand prbsStep)) := rfl

/-- Every other command is the same for every generator. -/
theorem execWith_eq_exec (prbsStep : Word → Word) {i : Instr} (hc : i ≠ .corrupt) (hr : i ≠ .runChunk) (s : State) :
    execWith prbsStep i s = exec i s := by
  cases i with
  | corrupt => exact absurd rfl hc
  | runChunk => exact absurd rfl hr
  | nop | configure | pad _ | encode | frame | verify | clearErr | softReset => rfl

/-- Every command of every such machine acts on the block alone, and answers a next state. -/
theorem execWith_next (prbsStep : Word → Word) (i : Instr) (s : State) :
    ∃ b : Block, execWith prbsStep i s = .next { s with block := b } := by
  cases i <;> exact ⟨_, rfl⟩

theorem execWith_xorshift : execWith xorshiftStep = exec := by
  funext i s
  cases i <;> rfl

theorem stepWith_xorshift : stepWith xorshiftStep = step := by
  funext s
  exact congrArg (stepHost · s) execWith_xorshift

theorem coreWith_xorshift : coreWith xorshiftStep = Sys2Proof.core := by
  rw [coreWith, stepWith_xorshift]
  rfl

theorem stepWith_nil (prbsStep : Word → Word) {s : State} (h : s.pending = []) : stepWith prbsStep s = .next s :=
  stepHost_nil _ h

/-- A step on a CMD write is the command of its word (R59). -/
theorem stepWith_cmdWrite (prbsStep : Word → Word) {s : State} {w : Word} {rest : List HostEvent}
    (h : s.pending = cmdWrite w :: rest) :
    stepWith prbsStep s = runCommand (execWith prbsStep) w { s with pending := rest } :=
  stepHost_cmdWrite _ h

end Sys2Proof.Machine
end

