-- ==== Sys2Proof/Laws/Channel.lean ====
section
/-! SUPPORT. What the bit-flip loop does, for every PRBS_STEP: one draw per bit, and each draw touches its own bit. -/

namespace Sys2Proof.Machine

theorem drawOf_toNat (p : Word) : (drawOf p).toNat = p.toNat / 2 ^ 16 := by
  have := p.isLt
  simp only [drawOf, BitVec.extractLsb'_toNat, Nat.shiftRight_eq_div_pow]
  omega

/-- One draw per bit, whatever the threshold and the frame (43_channel.md R96). -/
theorem corruptLoop_state (prbsStep : Word → Word) (T : BitVec 17) (i : Nat) (f : BitVec 72) (p : Word) :
    (corruptLoop prbsStep T i f p).2 = prbsStep^[i] p := by
  induction i generalizing f p with
  | zero => rfl
  | succ i ih =>
    rw [corruptLoop, Function.iterate_succ_apply]
    exact ih _ _

/-- The loop from position `i` down leaves every bit at or above `i` alone. -/
theorem corruptLoop_above (prbsStep : Word → Word) (T : BitVec 17) (i : Nat) (f : BitVec 72) (p : Word)
    {k : Nat} (hk : i ≤ k) : (corruptLoop prbsStep T i f p).1.getLsbD k = f.getLsbD k := by
  induction i generalizing f p with
  | zero => rfl
  | succ i ih =>
    rw [corruptLoop]
    rw [ih _ _ (by omega)]
    split
    · have : ¬ k - i = 0 := by omega
      simp [BitVec.getLsbD_shiftLeft, this]
    · rfl

/-- Bit `k` is flipped exactly when the draw that is its turn is below the threshold (R94, R95). -/
theorem corruptLoop_bit (prbsStep : Word → Word) (T : BitVec 17) (i : Nat) (f : BitVec 72) (p : Word)
    {k : Nat} (hk : k < i) (hi : i ≤ 72) :
    (corruptLoop prbsStep T i f p).1.getLsbD k =
      (f.getLsbD k ^^ flips T (drawOf (prbsStep^[i - k] p))) := by
  induction i generalizing f p with
  | zero => omega
  | succ i ih =>
    rw [corruptLoop]
    rcases Nat.lt_or_ge k i with h | h
    · rw [ih _ _ h (by omega)]
      have : i + 1 - k = (i - k) + 1 := by omega
      rw [this, Function.iterate_succ_apply]
      congr 1
      split
      · have hne : ¬ i ≤ k := by omega
        simp [BitVec.getLsbD_shiftLeft, h]
      · rfl
    · obtain rfl : k = i := by omega
      rw [corruptLoop_above _ _ _ _ _ (Nat.le_refl k), Nat.add_sub_cancel_left, Function.iterate_one]
      cases flips T (drawOf (prbsStep p)) with
      | false => simp
      | true =>
        have hk' : k < 72 := by omega
        simp [hk']

end Sys2Proof.Machine
end

