-- ==== Sys2Proof/Laws/Crc.lean ====
section
/-! SUPPORT. The algebra of the remainder register: it is linear, it splits along a concatenation, and one test of the
literal division is one step of it. -/

namespace Sys2Proof.Machine

/-- One step is linear in the register and the bit together (42_crc.md R85 (a)). -/
theorem crcStep_xor (p a b : BitVec 8) (x y : Bool) :
    crcStep p (a ^^^ b) (x ^^ y) = crcStep p a x ^^^ crcStep p b y := by
  unfold crcStep
  rw [BitVec.msb_xor, BitVec.shiftLeft_xor_distrib]
  generalize a <<< 1 = a'
  generalize b <<< 1 = b'
  have left_comm : ∀ u v w : BitVec 8, u ^^^ (v ^^^ w) = v ^^^ (u ^^^ w) := fun u v w => by
    rw [← BitVec.xor_assoc, BitVec.xor_comm u v, BitVec.xor_assoc]
  cases a.msb <;> cases b.msb <;> cases x <;> cases y <;>
    simp [BitVec.xor_assoc, BitVec.xor_comm b' p, left_comm a' p]

theorem crcStep_zero (p : BitVec 8) : crcStep p 0 false = 0 := by
  simp [crcStep]

/-- The loop is linear in the register and the value together. -/
theorem crcLoop_xor (p : BitVec 8) (u v : Nat) (i : Nat) (a b : BitVec 8) :
    crcLoop p (u ^^^ v) i (a ^^^ b) = crcLoop p u i a ^^^ crcLoop p v i b := by
  induction i generalizing a b with
  | zero => rfl
  | succ i ih => rw [crcLoop, crcLoop, crcLoop, Nat.testBit_xor, crcStep_xor, ih]

theorem crcLoop_zero (p : BitVec 8) (i : Nat) : crcLoop p 0 i 0 = 0 := by
  induction i with
  | zero => rfl
  | succ i ih => rw [crcLoop, Nat.zero_testBit, crcStep_zero, ih]

/-- The loop reads the bits below its count and no others. -/
theorem crcLoop_congr (p : BitVec 8) {u v : Nat} {i : Nat} (r : BitVec 8)
    (h : ∀ j, j < i → u.testBit j = v.testBit j) : crcLoop p u i r = crcLoop p v i r := by
  induction i generalizing r with
  | zero => rfl
  | succ i ih => rw [crcLoop, crcLoop, h i (Nat.lt_succ_self i), ih _ fun j hj => h j (Nat.lt_succ_of_lt hj)]

/-- A concatenation is read front part first. -/
theorem crcLoop_append (p : BitVec 8) (u v k i : Nat) (r : BitVec 8) (hv : v < 2 ^ k) :
    crcLoop p (u * 2 ^ k + v) (k + i) r = crcLoop p v k (crcLoop p u i r) := by
  induction i generalizing r with
  | zero =>
    refine crcLoop_congr p r fun j hj => ?_
    have : u * 2 ^ k + v = 2 ^ k * u + v := by rw [Nat.mul_comm]
    rw [this, Nat.testBit_two_pow_mul_add u hv, if_pos (by omega)]
  | succ i ih =>
    have hbit : (u * 2 ^ k + v).testBit (k + i) = u.testBit i := by
      rw [Nat.mul_comm, Nat.testBit_two_pow_mul_add u hv, if_neg (by omega), Nat.add_sub_cancel_left]
    rw [← Nat.add_assoc, crcLoop, hbit, ih, crcLoop]

/-- Leading zeros leave an empty register empty (R85 (c)). -/
theorem crcLoop_leading_zeros (p : BitVec 8) {v L L' : Nat} (hv : v < 2 ^ L) (hL : L ≤ L') :
    crcLoop p v L' 0 = crcLoop p v L 0 := by
  obtain ⟨d, rfl⟩ := Nat.exists_eq_add_of_le hL
  have := crcLoop_append p 0 v L d 0 hv
  rwa [Nat.zero_mul, Nat.zero_add, crcLoop_zero] at this

/-- One test of the literal division, on a working register that holds the remainder register over the next eight bits
of the extended data: what is left is one step of the remainder register over the eight bits after (R82, R83). -/
theorem divideXor_window (P : BitVec 9) (r : BitVec 8) (e i : Nat) :
    (divideXor P ((r ^^^ BitVec.ofNat 8 (e >>> (i + 1))) ++ BitVec.ofBool (e.testBit i))).setWidth 8 =
      crcStep (P.setWidth 8) r (e.testBit (i + 8)) ^^^ BitVec.ofNat 8 (e >>> i) := by
  have hwin : ∀ m k, k < 8 → (BitVec.ofNat 8 (e >>> m)).getLsbD k = e.testBit (m + k) := fun m k hk => by
    rw [BitVec.getLsbD_ofNat, Nat.testBit_shiftRight, decide_eq_true hk, Bool.true_and]
  have hmsb : ((r ^^^ BitVec.ofNat 8 (e >>> (i + 1))) ++ BitVec.ofBool (e.testBit i)).msb =
      (r.msb ^^ e.testBit (i + 8)) := by
    have h : (BitVec.ofNat 8 (e >>> (i + 1))).msb = e.testBit (i + 8) := by
      rw [BitVec.msb_eq_getLsbD_last, hwin _ _ (by decide)]
    rw [BitVec.msb_append, BitVec.msb_xor, h]
    rfl
  unfold divideXor crcStep
  rw [hmsb]
  apply BitVec.eq_of_getLsbD_eq
  intro j hj
  have hbit := hwin i j hj
  have hlow : ((r ^^^ BitVec.ofNat 8 (e >>> (i + 1))) ++ BitVec.ofBool (e.testBit i)).getLsbD j =
      ((r <<< 1).getLsbD j ^^ e.testBit (i + j)) := by
    rw [BitVec.getLsbD_append, BitVec.getLsbD_shiftLeft]
    rcases Nat.eq_zero_or_pos j with rfl | hpos
    · simp
    · have h1 : ¬ j < 1 := by omega
      have h3 : i + 1 + (j - 1) = i + j := by omega
      rw [BitVec.getLsbD_xor, hwin _ _ (by omega), h3]
      simp [h1, hj]
  cases r.msb ^^ e.testBit (i + 8)
  · simp only [Bool.false_eq_true, if_false, BitVec.getLsbD_setWidth, BitVec.getLsbD_xor, hj, decide_true,
      Bool.true_and, hlow, hbit]
  · simp only [if_true, BitVec.getLsbD_setWidth, BitVec.getLsbD_xor, hj, decide_true, Bool.true_and, hlow, hbit]
    cases (r <<< 1).getLsbD j <;> cases P.getLsbD j <;> cases e.testBit (i + j) <;> rfl

end Sys2Proof.Machine
end

