-- ==== Sys2Proof/Laws/Encoding.lean ====
section
/-! SUPPORT. The fields of the words the encoder writes, and the words the decoder reads. -/

namespace Sys2Proof

/-- The three fields of a word, put together again, are the word (30_encoding.md R69). -/
theorem fields_append (w : Word) : rsvdField w ++ nField w ++ opField w = w := by
  apply BitVec.eq_of_toNat_eq
  have hw := w.isLt
  simp only [rsvdField, nField, opField, BitVec.toNat_append, BitVec.extractLsb'_toNat,
    Nat.shiftRight_eq_div_pow]
  rw [← Nat.shiftLeft_add_eq_or_of_lt (by omega), ← Nat.shiftLeft_add_eq_or_of_lt (by omega)]
  simp only [Nat.shiftLeft_eq]
  omega

theorem opField_append (r : BitVec 21) (n : BitVec 7) (o : BitVec 4) : opField (r ++ n ++ o) = o := by
  apply BitVec.eq_of_toNat_eq
  have := o.isLt
  have := n.isLt
  simp only [opField, BitVec.toNat_append, BitVec.extractLsb'_toNat, Nat.shiftRight_eq_div_pow]
  rw [← Nat.shiftLeft_add_eq_or_of_lt (by omega), ← Nat.shiftLeft_add_eq_or_of_lt (by omega)]
  simp only [Nat.shiftLeft_eq]
  omega

theorem nField_append (r : BitVec 21) (n : BitVec 7) (o : BitVec 4) : nField (r ++ n ++ o) = n := by
  apply BitVec.eq_of_toNat_eq
  have := o.isLt
  have := n.isLt
  simp only [nField, BitVec.toNat_append, BitVec.extractLsb'_toNat, Nat.shiftRight_eq_div_pow]
  rw [← Nat.shiftLeft_add_eq_or_of_lt (by omega), ← Nat.shiftLeft_add_eq_or_of_lt (by omega)]
  simp only [Nat.shiftLeft_eq]
  omega

theorem rsvdField_append (r : BitVec 21) (n : BitVec 7) (o : BitVec 4) : rsvdField (r ++ n ++ o) = r := by
  apply BitVec.eq_of_toNat_eq
  have := o.isLt
  have := n.isLt
  have := r.isLt
  simp only [rsvdField, BitVec.toNat_append, BitVec.extractLsb'_toNat, Nat.shiftRight_eq_div_pow]
  rw [← Nat.shiftLeft_add_eq_or_of_lt (by omega), ← Nat.shiftLeft_add_eq_or_of_lt (by omega)]
  simp only [Nat.shiftLeft_eq]
  omega

/-- Decoding reads the three fields and nothing else (R72, R75). -/
theorem decode_fields (n : BitVec 7) (o : BitVec 4) :
    decode (0#21 ++ n ++ o) =
      match instrOfOp o.toNat n.toNat with
      | none => .error .reservedOpcode
      | some i => if o ≠ 0x2 ∧ n ≠ 0 then .error .strayLength else .ok i := by
  unfold decode
  rw [rsvdField_append, opField_append, nField_append]
  rfl

theorem decode_reserved {w : Word} (h : rsvdField w ≠ 0) : decode w = .error .reservedBits := by
  unfold decode
  exact if_pos h

end Sys2Proof
end

