-- ==== Sys2Proof/Laws/PerInstr.lean ====
section
/-! SUPPORT. What holds of each command as syntax, one lemma per constructor. -/

namespace Sys2Proof.Laws.EncodingFields

/-- The word of a command has its opcode in OP, its length operand in N, and 0 in RSVD (30_encoding.md R69 to R71). -/
def Statement (i : Instr) : Prop :=
  i.WellFormed = true →
    opField (encode i) = opcodeOf i ∧ nField (encode i) = lengthOf i ∧ rsvdField (encode i) = 0

theorem of_append (i : Instr) : Statement i :=
  fun _ => ⟨opField_append _ _ _, nField_append _ _ _, rsvdField_append _ _ _⟩

theorem nop : Statement .nop := of_append _
theorem configure : Statement .configure := of_append _
theorem pad (n : Nat) : Statement (.pad n) := of_append _
theorem encode : Statement .encode := of_append _
theorem frame : Statement .frame := of_append _
theorem corrupt : Statement .corrupt := of_append _
theorem verify : Statement .verify := of_append _
theorem runChunk : Statement .runChunk := of_append _
theorem clearErr : Statement .clearErr := of_append _
theorem softReset : Statement .softReset := of_append _

end Sys2Proof.Laws.EncodingFields
end

