-- ==== Sys2Proof/Laws/Run.lean ====
section
/-! SUPPORT. Runs of the machine: one step at a time, and that serving an event does not read the host's list. -/

namespace Sys2Proof.Machine

theorem run_of_step_next (M : Host.Core) {k : Nat} {s t : M.State} (h : M.step s = .next t) :
    M.run (k + 1) s = M.run k t := by
  rw [Host.Core.run, h]

theorem run_of_step_fault (M : Host.Core) {k : Nat} {s : M.State} {r : M.Fault} (h : M.step s = .fault r) :
    M.run (k + 1) s = .fault r := by
  rw [Host.Core.run, h]

theorem run_succ_next {k : Nat} {s t : State} (h : step s = .next t) :
    Sys2Proof.core.run (k + 1) s = Sys2Proof.core.run k t :=
  run_of_step_next Sys2Proof.core h

theorem run_succ_fault {k : Nat} {s : State} {r : Fault} (h : step s = .fault r) :
    Sys2Proof.core.run (k + 1) s = .fault r :=
  run_of_step_fault Sys2Proof.core h

/-- What an event does is the same whatever the host's list is, and leaves the list as it is (20_memory.md R62). -/
theorem serve_with_pending {e : HostEvent} {s t : State} (h : serve exec e s = .next t) (l : List HostEvent) :
    serve exec e { s with pending := l } = .next { t with pending := l } ∧ t.pending = s.pending := by
  have key : ∀ u, Host.Outcome.next u = Host.Outcome.next (φ := Fault) (ρ := Refusal) t → t = u :=
    fun u hu => (Host.Outcome.next.inj hu).symm
  cases e with
  | read off size =>
    simp only [serve, serveRead] at h ⊢
    cases ht : accessTarget off size with
    | none => simp [ht] at h
    | some r =>
      rw [ht] at h
      exact key _ h ▸ ⟨rfl, rfl⟩
  | write off size v =>
    simp only [serve, serveWrite] at h ⊢
    cases ht : accessTarget off size with
    | none => simp [ht] at h
    | some r =>
      rw [ht] at h
      simp only [writeTarget] at h ⊢
      cases ha : r.access with
      | rw => rw [ha] at h; exact key _ h ▸ ⟨rfl, rfl⟩
      | ro => rw [ha] at h; exact key _ h ▸ ⟨rfl, rfl⟩
      | wo =>
        rw [ha] at h
        simp only at h ⊢
        cases hd : decode v with
        | ok i =>
          rw [runCommand_ok hd, exec_eq_onBlock] at h
          rw [runCommand_ok hd, exec_eq_onBlock]
          exact key _ h ▸ ⟨rfl, rfl⟩
        | error r =>
          rw [runCommand_error hd] at h
          rw [runCommand_error hd]
          exact key _ h ▸ ⟨rfl, rfl⟩
  | hardwareReset => exact key _ h ▸ ⟨rfl, rfl⟩
  | accessDuringReset => cases h

end Sys2Proof.Machine
end

