-- ==== Sys2Proof/Tests/Slice0.lean ====
section
/-! SUPPORT. Tests of the model against values that stand in the spec (95_test_vectors.md and the rules' own examples), and
for each statement of Certificates/Slice0/Obligations.lean that has hypotheses, a witness that meets them. -/

namespace Sys2Proof.Tests

open Sys2Proof.Machine

/-! ## Small states -/

/-- "Configured with (P, c, T, S)" of 95_test_vectors.md: a CONFIGURE of these shadow values, from reset. -/
def configured (p : BitVec 9) (c : BitVec 7) (t : BitVec 17) (seed : Word) : Block :=
  { Block.reset with poly := p, chunkBits := c, pThresh := t, seed := seed }.configureCommand

/-- The default configuration with a threshold and a value staged in DATA. -/
def ready (t : BitVec 17) (data : BitVec 64) : Block := { configured 0x107 64 t 1 with data := data }

/-- The "A" frame of 95_test_vectors.md, in the channel's hands, received as `rx` (L1.5, L2.6). -/
def received (rx : BitVec 72) : Block :=
  { configured 0x107 64 6554 1 with
    txData := 0x4100000000000000, check := 0xCF, txFrame := 0x4100000000000000CF, rxFrame := rx, fsm := .channeled }

/-- A block, with the host about to make the accesses `es`. -/
def onBus (b : Block) (es : List HostEvent) : State := { block := b, pending := es, readLog := [] }

/-- `W 04 w`. -/
def cmd (w : Word) : HostEvent := .write 0x04#8 .bits32 w

/-- A value of the block after a step that goes on. -/
def after {α : Type} (o : Host.Outcome State Fault Refusal) (f : Block → α) : Option α :=
  match o with
  | .next t => some (f t.block)
  | .fault _ => none
  | .refused _ => none

/-- The STATUS word after a step that goes on. -/
def status (o : Host.Outcome State Fault Refusal) : Option Word := after o fun b => b.readReg .status

/-- What the host has read, newest first, after a step that goes on. -/
def reads (o : Host.Outcome State Fault Refusal) : Option (List Word) :=
  match o with
  | .next t => some t.readLog
  | .fault _ => none
  | .refused _ => none

/-- The fault a step stops with. -/
def faultOf (o : Host.Outcome State Fault Refusal) : Option Fault :=
  match o with
  | .next _ => none
  | .fault r => some r
  | .refused _ => none

/-! ## Syntax and decoding: words written out from format C, RSVD then N then OP (R69, R71) -/

theorem test_ill_formed_pad : (Instr.pad 128).WellFormed = false := by decide

theorem test_longest_pad_is_well_formed : (Instr.pad 127).WellFormed = true := by decide

theorem test_decode_nop : decode 0b000000000000000000000_0000000_0000#32 = .ok .nop := by decide

theorem test_decode_configure : decode 0b000000000000000000000_0000000_0001#32 = .ok .configure := by decide

theorem test_decode_pad_8 : decode 0b000000000000000000000_0001000_0010#32 = .ok (.pad 8) := by decide

theorem test_decode_pad_64 : decode 0b000000000000000000000_1000000_0010#32 = .ok (.pad 64) := by decide

theorem test_decode_encode : decode 0b000000000000000000000_0000000_0011#32 = .ok .encode := by decide

theorem test_decode_frame : decode 0b000000000000000000000_0000000_0100#32 = .ok .frame := by decide

theorem test_decode_corrupt : decode 0b000000000000000000000_0000000_0101#32 = .ok .corrupt := by decide

theorem test_decode_verify : decode 0b000000000000000000000_0000000_0110#32 = .ok .verify := by decide

theorem test_decode_run_chunk : decode 0b000000000000000000000_0000000_0111#32 = .ok .runChunk := by decide

theorem test_decode_clear_err : decode 0b000000000000000000000_0000000_1000#32 = .ok .clearErr := by decide

theorem test_decode_soft_reset : decode 0b000000000000000000000_0000000_1111#32 = .ok .softReset := by decide

theorem test_decode_reserved_opcodes :
    decode 0x9#32 = .error .reservedOpcode ∧ decode 0xE#32 = .error .reservedOpcode := by decide

theorem test_decode_reserved_bits :
    decode 0x0000080F#32 = .error .reservedBits ∧ decode 0x80000003#32 = .error .reservedBits := by decide

theorem test_decode_stray_length :
    decode 0x0000001F#32 = .error .strayLength ∧ decode 0x00000010#32 = .error .strayLength := by decide

theorem test_encode_words :
    encode (.pad 127) = 0x000007F2#32 ∧ encode .runChunk = 0x00000007#32 ∧ encode .softReset = 0x0000000F#32 := by
  decide

/-! ## The commands, one step each (95_test_vectors.md L2, L3) -/

/-- L2.10: NOP does not clear ERR. -/
theorem test_nop_keeps_the_error :
    status (step (onBus { ready 0 0 with fsm := .mismatched, err := true, errCause := .cmdBadLength }
      [cmd 0x00000000])) = some 0x5A3 := by decide

/-- L2.9: seed 0 is loaded as 1. -/
theorem test_configure_zero_seed :
    after (step (onBus { Block.reset with chunkBits := 2, pThresh := 0, seed := 0 } [cmd 0x00000001]))
      (fun b => (b.readReg .status, b.prbsState, b.actChunkBits)) = some (0x001, 0x00000001, 2) := by decide

/-- L2.9: the chunk checks come before the polynomial's and the range check, c = 1 before both. -/
theorem test_configure_priority :
    status (step (onBus { Block.reset with chunkBits := 1, poly := 0x007, pThresh := 0x1FFFF }
      [cmd 0x00000001])) = some 0x032 := by decide

/-- L2.2: c = 64, PAD 8. -/
theorem test_pad_8 :
    after (step (onBus (ready 6554 0x41) [cmd 0x00000082])) (fun b => (b.data, b.readReg .status)) =
      some (0x4100000000000000, 0x001) := by decide

/-- L2.2: c = 16, PAD 17 is refused and DATA stays. -/
theorem test_pad_17_of_16 :
    after (step (onBus { configured 0x107 16 0 1 with data := 0x41 } [cmd 0x00000112]))
      (fun b => (b.data, b.readReg .status)) = some (0x41, 0x0A3) := by decide

/-- L2.3: c = 8, bits 63..8 of DATA are ignored. -/
theorem test_encode_8_bits :
    after (step (onBus { configured 0x107 8 0 1 with data := 0xFFFFFFFFFFFFFF41 } [cmd 0x00000003]))
      (fun b => (b.txData, b.check, b.readReg .status)) = some (0x41, 0xC0, 0x101) := by decide +kernel

/-- L2.3: the padded "A" from MISMATCH. -/
theorem test_encode_after_mismatch :
    after (step (onBus { ready 6554 0x4100000000000000 with fsm := .mismatched } [cmd 0x00000003]))
      (fun b => (b.check, b.readReg .status)) = some (0xCF, 0x101) := by decide +kernel

/-- L2.4: c = 16. -/
theorem test_frame_16_bits :
    after (step (onBus { configured 0x107 16 0 1 with txData := 0x6F75, check := 0x7A, fsm := .encoded }
      [cmd 0x00000004])) (fun b => (b.txFrame, b.readReg .status)) = some (0x6F757A, 0x201) := by decide

/-- L2.8: FRAME in IDLE is refused. -/
theorem test_frame_out_of_order : status (step (onBus (ready 6554 0) [cmd 0x00000004])) = some 0x0B3 := by decide

/-- L2.5: c = 8, T = 32768, generator 0x12345678. -/
theorem test_corrupt_8_bits :
    after (step (onBus { configured 0x107 8 32768 0x12345678 with txFrame := 0x41C0, fsm := .framed }
      [cmd 0x00000005])) (fun b => (b.rxFrame, b.prbsState, b.readReg .status)) =
      some (0x2DB4, 0xF6DAAD69, 0x301) := by decide +kernel

/-- L2.6: the T = 6554 pattern. -/
theorem test_verify_mismatch :
    after (step (onBus (received 0x91062092800809204F) [cmd 0x00000006]))
      (fun b => (b.rxData, b.rxCheck, b.recomp, b.matchCount, b.mismatchCount, b.readReg .status)) =
      some (0x9106209280080920, 0x4F, 0x30, 0, 1, 0x501) := by decide +kernel

/-- L2.6: the error pattern 0x107 << 63, a multiple of P, passes undetected. -/
theorem test_verify_false_negative :
    after (step (onBus (received 0xC280000000000000CF) [cmd 0x00000006]))
      (fun b => (b.recomp, b.recIndex, b.burstCount, b.matchCount, b.readReg .status)) =
      some (0xCF, 0, 1, 1, 0x405) := by decide +kernel

/-- L2.7: the second row. -/
theorem test_run_chunk :
    after (step (onBus (ready 6554 0x4100000000000000) [cmd 0x00000007]))
      (fun b => (b.rxFrame, b.rxCheck, b.recomp, b.prbsState, b.readReg .status)) =
      some (0x91062092800809204F, 0x4F, 0x30, 0x55B00591, 0x501) := by decide +kernel

/-- L2.6: the counters wrap. -/
theorem test_run_chunk_counter_wrap :
    after (step (onBus { ready 6554 0x4100000000000000 with burstCount := 0xFFFFFFFF, matchCount := 0xFFFFFFFF }
      [cmd 0x00000007])) (fun b => (b.recIndex, b.burstCount, b.matchCount, b.mismatchCount)) =
      some (0xFFFFFFFF, 0, 0xFFFFFFFF, 1) := by decide +kernel

/-- L2.10: CLEAR_ERR after a refusal from reset. -/
theorem test_clear_err :
    status (step (onBus { Block.reset with err := true, errCause := .cmdNotConfigured } [cmd 0x00000008])) =
      some 0x000 := by decide

/-- L2.10: SOFT_RESET from a configured block. -/
theorem test_soft_reset :
    after (step (onBus { ready 0 5 with poly := 0x1FF, pThresh := 3 } [cmd 0x0000000F]))
      (fun b => (b.poly, b.pThresh, b.data, b.readReg .status)) = some (0x107, 0x199A, 0, 0) := by decide

/-- L2.1: a SOFT_RESET word with a stray bit is no reset. -/
theorem test_illegal_word :
    after (step (onBus (ready 6554 0x41) [cmd 0x0000080F])) (fun b => (b.data, b.readReg .status)) =
      some (0x41, 0x083) := by decide

/-- L2.1: from reset, CMD_NOT_CONFIGURED comes before CMD_BAD_LENGTH. -/
theorem test_priority_from_reset : status (step (onBus Block.reset [cmd 0x00000002])) = some 0x092 := by decide

/-! ## The division (L2.3, L1.1) -/

theorem test_crc8_trailing_zeros : crc8 0x41 8 0x107 = 0xC0 ∧ crc8 0x4100000000000000 64 0x107 = 0xCF := by
  decide +kernel

/-- The literal division of R82 on the same values. -/
theorem test_divide_literal :
    divideLiteral 0x41 8 0x107 = 0xC0 ∧ divideLiteral 0x4100000000000000 64 0x107 = 0xCF := by decide +kernel

theorem test_crc8_other_polynomials :
    crc8 0x41 8 0x131 = 0x0C ∧ crc8 0x41 8 0x1D5 = 0x48 ∧ crc8 0x41 8 0x1FF = 0xDF ∧ crc8 0x41 8 0x100 = 0 := by
  decide +kernel

/-! ## Another generator (R90, R98): with PRBS_STEP the identity, the boundary cases are the same (L1.4) -/

theorem test_complement_for_another_generator :
    after (stepWith id (onBus { configured 0x107 2 65536 1 with txFrame := 0x20E, fsm := .framed } [cmd 0x5]))
      (fun b => (b.rxFrame, b.prbsState)) = some (0x1F1, 1) := by decide +kernel

theorem test_threshold_conversion :
    (thresholdOf (1 / 10), thresholdOf 0, thresholdOf 1) = (6554, 0, 65536) := by decide +kernel

/-! ## The bus (L2.11, L3) -/

theorem test_poly_keeps_nine_bits :
    after (step (onBus Block.reset [.write 0x0C#8 .bits32 0xFFFFFFFF])) (fun b => b.readReg .poly) =
      some 0x000001FF := by decide

theorem test_read_id : reads (step (onBus Block.reset [.read 0x00#8 .bits32])) = some [0x43524338] := by decide

theorem test_write_to_prbs_state_is_ignored :
    after (step (onBus Block.reset [.write 0x1C#8 .bits32 5])) (fun b => b.prbsState) = some 1 := by decide

theorem test_frame_words :
    (received 0x91062092800809204F).readReg .rxFrame0 = 0x0809204F ∧
    (received 0x91062092800809204F).readReg .rxFrame1 = 0x06209280 ∧
    (received 0x91062092800809204F).readReg .rxFrame2 = 0x00000091 := by decide

theorem test_bus_errors :
    faultOf (step (onBus Block.reset [.read 0x78#8 .bits32])) = some .busError ∧
    faultOf (step (onBus Block.reset [.read 0xFC#8 .bits32])) = some .busError ∧
    faultOf (step (onBus Block.reset [.read 0x02#8 .bits32])) = some .busError ∧
    faultOf (step (onBus Block.reset [.write 0x04#8 .bits16 0])) = some .busError := by decide

/-- L3, program P1: the accesses of `setup` and `chunk`. -/
theorem test_host_lines :
    hostProgram [.setup 0x107 64 0 1, .chunk 0x41 8] =
      [.write 0x0C#8 .bits32 0x107, .write 0x10#8 .bits32 0x40, .write 0x14#8 .bits32 0, .write 0x18#8 .bits32 1,
        cmd 0x1, .write 0x20#8 .bits32 0x41, .write 0x24#8 .bits32 0, cmd 0x82] := by decide

/-- L1.3: 88 bits in chunks of 64 are two chunks, the last one of 24 valid bits; no bits are no chunk. -/
theorem test_split_88 :
    ((splitBits 64 (List.replicate 88 true)).map List.length, splitBits 64 []) = ([64, 24], []) := by decide +kernel

/-- The host's view of the decoder and of a run's first command. -/
theorem test_first_command_after_reset :
    decodeTableWord 32 0x82 = some (.pad 8) ∧ status (step (State.reset.withFetchWord 32 0x82)) = some 0x092 := by
  decide

/-! ## Witnesses: for each statement that has hypotheses, a concrete input that meets them together, each clause at the
ends of its range -/

/-- Every host list of one event is the pending list of a state. -/
theorem onBus_pending (b : Block) (es : List HostEvent) : (onBus b es).pending = es := rfl

/-- A step on a command word, in the form `Reachable` asks for. -/
theorem reachable_cmd {s : State} {w : Word} {i : Instr} (h : Reachable s) (hd : decode w = .ok i) :
    Reachable ({ s with pending := [] }.onBlock (blockOf i)) := by
  refine Reachable.step (Reachable.replan [cmdWrite w] h) ?_
  rw [step_cmdWrite (w := w) (rest := []) rfl, runCommand_ok hd, exec_eq_onBlock]

/-- The block after a default CONFIGURE and one RUN_CHUNK, which ends in MISMATCH (L2.7 at DATA = 0). -/
def finished : Block := (configured 0x107 64 6554 1).runChunkCommand xorshiftStep

theorem reset_reachable : Reachable State.reset := Reachable.reset []

theorem finished_reachable : Reachable (onBus finished []) := by
  have h := reachable_cmd (reachable_cmd reset_reachable (w := 1) (i := .configure) (by decide)) (w := 7)
    (i := .runChunk) (by decide)
  exact h

theorem configured_legal : (configured 0x107 64 6554 1).ConfigLegal := ⟨by decide, by decide, by decide, by decide⟩

/-- The smallest chunk and the largest threshold are legal. -/
theorem smallest_legal : (configured 0x100 2 65536 0).ConfigLegal := ⟨by decide, by decide, by decide, by decide⟩

theorem received_legal (rx : BitVec 72) : (received rx).ConfigLegal :=
  ⟨configured_legal.1, configured_legal.2, configured_legal.3, configured_legal.4⟩

theorem finished_inv : finished.Inv :=
  ⟨⟨by decide +kernel, by decide +kernel, by decide +kernel, by decide +kernel⟩, by decide +kernel,
    by decide +kernel, by decide +kernel, by decide +kernel, by decide +kernel, by decide +kernel,
    by decide +kernel, by decide +kernel⟩

theorem finished_record : finished.RecordInv :=
  ⟨by decide +kernel, by decide +kernel, by decide +kernel, by decide +kernel, by decide +kernel, by decide +kernel⟩

/-- DecodeIsTheExactInverseOfEncode: the longest PAD word meets both sides. -/
theorem witness_decode_encode :
    decode 0x000007F2#32 = .ok (.pad 127) ∧ (Instr.pad 127).WellFormed = true ∧ encode (.pad 127) = 0x000007F2#32 := by
  decide

/-- CommandWordsOfTheTable: PAD 0 and PAD 127, and a word outside the mask. -/
theorem witness_pad_words :
    0x00000002#32 &&& 0xFFFFF80F#32 = 0x00000002#32 ∧ 0x000007F2#32 &&& 0xFFFFF80F#32 = 0x00000002#32 ∧
    decode 0x00000002#32 = .ok (.pad 0) ∧ 0x00000802#32 &&& 0xFFFFF80F#32 ≠ 0x00000002#32 := by decide

/-- IllegalWordsAreRefusedAndOnlyNopDoesNothing: each kind of illegal word, at the ends of its range. -/
theorem witness_illegal_words :
    (∀ w ∈ ([0x9, 0xE, 0x800, 0x80000003, 0x10, 0x7FF] : List Word),
      (0x9 ≤ w.toNat % 16 ∧ w.toNat % 16 ≤ 0xE) ∨ w.toNat / 2 ^ 11 ≠ 0 ∨
        (w.toNat / 2 ^ 4 % 2 ^ 7 ≠ 0 ∧ w.toNat % 16 ≠ 0x2)) ∧
    (onBus Block.reset [cmd 0x9]).pending = .write 0x04#8 .bits32 0x9 :: [] :=
  ⟨by simp, rfl⟩

/-- StepRunsTheDecodedCommand: one word of each kind. -/
theorem witness_step_runs :
    (onBus Block.reset [cmd 0x7F2]).pending = .write 0x04#8 .bits32 0x7F2 :: [] ∧
    decode 0x7F2#32 = .ok (.pad 127) ∧ decode 0x800#32 = .error .reservedBits := by decide

/-- RegisterMapReads, StatusWordLayout, RegistersHoldTheirWidth: a read of the last register, of STATUS, and a write that
is read back. -/
theorem witness_reads :
    (onBus finished [.read 0x74#8 .bits32]).pending = .read 0x74#8 .bits32 :: [] ∧
    (onBus finished [.read 0x08#8 .bits32]).pending = .read 0x08#8 .bits32 :: [] ∧
    (0x74#8, 6554) ∈ ([(0x00#8, 0x43524338), (0x74#8, finished.actPThresh.toNat)] : List (BitVec 8 × Nat)) := by
  decide +kernel

/-- The hypotheses of the statements about one write: each RW offset, the RO offsets at the ends of their range, and
STATUS. -/
theorem witness_writes :
    (∀ off ∈ ([0x0C, 0x10, 0x14, 0x18, 0x20, 0x24, 0x00, 0x08, 0x1C, 0x28, 0x74] : List (BitVec 8)),
      (onBus finished [.write off .bits32 0xFFFFFFFF, .read off .bits32]).pending =
        .write off .bits32 0xFFFFFFFF :: .read off .bits32 :: []) ∧
    (∀ off ∈ ([0x00, 0x08, 0x1C, 0x28, 0x74] : List (BitVec 8)),
      off = 0x00#8 ∨ off = 0x08#8 ∨ off = 0x1C#8 ∨
        (0x28 ≤ off.toNat ∧ off.toNat ≤ 0x74 ∧ off.toNat % 4 = 0)) := by decide

/-- BusErrorExactlyOnIllegalAccesses: the last mapped and the first unmapped offset, a misaligned one, each illegal size,
and an access during reset. -/
theorem witness_bus_errors :
    faultOf (step (onBus finished [.read 0x74#8 .bits32])) = none ∧
    faultOf (step (onBus finished [.write 0x78#8 .bits32 0])) = some .busError ∧
    faultOf (step (onBus finished [.write 0x75#8 .bits32 0])) = some .busError ∧
    faultOf (step (onBus finished [.read 0x00#8 .bits8])) = some .busError ∧
    faultOf (step (onBus finished [.read 0x00#8 .bits64])) = some .busError ∧
    faultOf (step (onBus finished [.accessDuringReset])) = some .accessDuringReset := by decide +kernel

/-- WindowHoldsExactlyItsAddresses: the first and the last address, and the ones beside them. -/
theorem witness_window :
    windowOffset 0x100 0x100 = some 0x00#8 ∧ windowOffset 0x100 0x1FF = some 0xFF#8 ∧
    windowOffset 0x100 0x200 = none ∧ windowOffset 0x100 0xFF = none := by decide

/-- AccessesAreServedInIssueOrder: a run of two accesses that goes on, and a state with none to come. -/
theorem witness_run :
    reads (Host.Core.run Sys2Proof.core 2
      (onBus Block.reset [.write 0x0C#8 .bits32 0x3FF, .read 0x0C#8 .bits32])) = some [0x1FF] ∧
    State.reset.pending = [] := by decide

/-- NoUncheckedFailure: legal events of each kind, at the ends of the map, and events beside them. -/
theorem witness_legal_events :
    (HostEvent.read 0x74#8 .bits32).Legal = true ∧ (HostEvent.write 0x00#8 .bits32 7).Legal = true ∧
    HostEvent.hardwareReset.Legal = true ∧ (HostEvent.read 0x78#8 .bits32).Legal = false ∧
    (HostEvent.write 0x01#8 .bits32 0).Legal = false ∧ HostEvent.accessDuringReset.Legal = false := by decide

/-- BothResetsGiveTheResetState: a hardware reset of a block that has run. -/
theorem witness_reset :
    (onBus finished [.hardwareReset]).pending = .hardwareReset :: [] ∧
    after (step (onBus finished [.hardwareReset])) (fun b => decide (b = Block.reset)) = some true ∧
    finished ≠ Block.reset := by decide +kernel

/-- NopFollowsItsRule and SoftResetFollowsItsRule: words that share the opcode. -/
theorem witness_near_words :
    (0x10#32).toNat % 16 = 0 ∧ 0x10#32 ≠ 0 ∧ (0x1F#32).toNat % 16 = 0xF ∧ 0x1F#32 ≠ 0x0000000F := by decide

/-- ConfigureFollowsItsRule: success at both ends of each range, and each failure at its end. -/
theorem witness_configure :
    (∀ x ∈ ([(2, 65536), (64, 0)] : List (BitVec 7 × BitVec 17)),
      2 ≤ x.1.toNat ∧ x.1.toNat ≤ 64 ∧ (0x107#9).getLsbD 8 = true ∧ x.2.toNat ≤ 65536) ∧
    (0#7).toNat = 0 ∧ 64 < (65#7).toNat ∧ 64 < (127#7).toNat ∧ (1#7).toNat = 1 ∧ (0x0FF#9).getLsbD 8 = false ∧
    65536 < (65537#17).toNat := by simp

/-- PadFollowsItsRule, EncodeFollowsItsRule and the rules of the other data commands: a state for each of their clauses,
not configured, or configured in each pipeline state; and the ends of PAD's ranges. -/
theorem witness_command_states :
    Block.reset.cfgValid = false ∧
    (∀ x ∈ [Fsm.idle, .encoded, .framed, .channeled, .matched, .mismatched],
      ({ ready 0 0x41 with fsm := x } : Block).cfgValid = true ∧ ({ ready 0 0x41 with fsm := x } : Block).fsm = x) ∧
    (ready 0 0x41).actChunkBits.toNat < 65 ∧ 64 ≤ (ready 0 0x41).actChunkBits.toNat ∧
    (ready 0 0x41).actChunkBits.toNat ≤ 64 := by decide

/-- OutOfSequenceCommandsAreRefused and DataCommandsNeedAConfiguration: a refused command, and an error kept by NOP. -/
theorem witness_refusals :
    (ready 0 0).fsm ∉ [Fsm.encoded] ∧ Block.reset.cfgValid = false ∧
    after (exec .nop (onBus { ready 0 0 with errCause := .cmdSequence } [])) (fun b => b.errCause) =
      some .cmdSequence ∧
    after (exec .nop (onBus { Block.reset with errCause := .cmdNotConfigured } []))
      (fun b => (b.cfgValid, b.errCause)) = some (false, .cmdNotConfigured) := by decide

/-- RefusalIsPrecise: each of the three causes sets ERR in a block without an error. -/
theorem witness_precise_refusals :
    after (exec .encode (onBus Block.reset [])) (fun b => (Block.reset.err, b.err, b.errCause)) =
      some (false, true, .cmdNotConfigured) ∧
    after (exec (.pad 65) (onBus (ready 0 0) [])) (fun b => ((ready 0 0).err, b.err, b.errCause)) =
      some (false, true, .cmdBadLength) ∧
    after (exec .verify (onBus (ready 0 0) [])) (fun b => ((ready 0 0).err, b.err, b.errCause)) =
      some (false, true, .cmdSequence) := by decide

/-- CommandsWriteOnlyTheirRegisters: a register that FRAME does not name. -/
theorem witness_unwritten_register : RegName.check ∉ [RegName.status, .txFrame0, .txFrame1, .txFrame2] := by decide

/-- OnlyFourCommandsAndResetMoveTheGenerator and OnlySetupChangesTheActiveConfiguration: steps that do change them. -/
theorem witness_changes :
    after (step (onBus (ready 0 0) [cmd 0x7])) (fun b => decide (b.prbsState ≠ (ready 0 0).prbsState)) = some true ∧
    after (step (onBus Block.reset [cmd 0x1])) (fun b => decide (b.cfgValid ≠ Block.reset.cfgValid)) = some true := by
  decide +kernel

/-- ErrorFlagIsSticky: a step that clears ERR. -/
theorem witness_error_cleared :
    after (step (onBus { ready 0 0 with err := true } [cmd 0x8])) (fun b => b.err) = some false := by decide

/-- MismatchIsReportedNeverFatal: VERIFY and RUN_CHUNK that end in MISMATCH, and a configured block. -/
theorem witness_mismatch :
    after (exec .verify (onBus (received 0) [])) (fun b => b.fsm) = some .matched ∧
    after (exec .verify (onBus (received 1) [])) (fun b => b.fsm) = some .mismatched ∧
    after (exec .runChunk (onBus (ready 6554 0) [])) (fun b => b.fsm) = some .mismatched ∧
    (ready 6554 0).cfgValid = true := by decide +kernel

/-- ShadowRegistersAreInertUntilConfigure and StagingDoesNotDisturbTheChunkInFlight: a command that runs. -/
theorem witness_inert_registers :
    ∃ t, exec .frame (onBus { ready 0 0 with fsm := .encoded } []) = .next t ∧ t.block.fsm = .framed ∧
      Instr.frame ≠ .configure ∧ Instr.frame ≠ .softReset :=
  ⟨_, rfl, by decide, by decide, by decide⟩

/-- ConfigureErasesTheEarlierRun: a fresh block and one that has run, with the same shadow registers and DATA. -/
theorem witness_earlier_run :
    finished ≠ Block.reset ∧ finished.poly = Block.reset.poly ∧ finished.chunkBits = Block.reset.chunkBits ∧
    finished.pThresh = Block.reset.pThresh ∧ finished.seed = Block.reset.seed ∧ finished.data = Block.reset.data ∧
    after (exec .configure (onBus finished [])) (fun b => b.cfgValid) = some true := by decide +kernel

/-- ChunkOutcomeDependsOnThreeThings: two blocks with different histories and different unused bits of DATA. -/
theorem witness_two_chunks :
    let b1 : Block := { configured 0x107 8 6554 1 with data := 0x41 }
    let b2 : Block := { configured 0x107 8 6554 1 with data := 0xFF41, fsm := .mismatched, matchCount := 7 }
    b1.cfgValid = true ∧ b2.cfgValid = true ∧ b1.fsm ∈ [Fsm.idle, .matched, .mismatched] ∧
    b2.fsm ∈ [Fsm.idle, .matched, .mismatched] ∧ b1.actPoly = b2.actPoly ∧ b1.actChunkBits = b2.actChunkBits ∧
    b1.actPThresh = b2.actPThresh ∧ b1.prbsState = b2.prbsState ∧
    b1.data.toNat % 2 ^ b1.actChunkBits.toNat = b2.data.toNat % 2 ^ b2.actChunkBits.toNat := by decide

/-- StepKeepsTheInvariant, StepKeepsTheRecordCoherent: a block that has run, and a step from it. -/
theorem witness_invariants :
    finished.Inv ∧ finished.RecordInv ∧ ∃ t, step (onBus finished [cmd 0x7]) = .next t ∧ t.pending = [] :=
  ⟨finished_inv, finished_record, _, rfl, rfl⟩

/-- ReachableStatesKeepTheStatedInvariants, ReachableRecordsAreCoherent: a reachable state with a record. -/
theorem witness_reachable :
    Reachable (onBus finished []) ∧ finished.fsm = .mismatched ∧ finished.cfgValid = true ∧ finished.err = false :=
  ⟨finished_reachable, by decide +kernel, by decide +kernel, by decide +kernel⟩

/-- The statements about the division: the shortest string, both ends of a length, polynomials that differ in their
first bit only. -/
theorem witness_division :
    1 ≤ 1 ∧ 1 < 2 ^ 1 ∧ 2 ^ 72 - 1 < 2 ^ 72 ∧ (0x107#9).getLsbD 8 = true ∧
    (0x107#9).toNat % 2 ^ 8 = (0x007#9).toNat % 2 ^ 8 ∧ 8 ≤ 64 ∧ 0x41 < 2 ^ 8 := by decide

/-- CodewordDividesWithZeroRemainder: a framed block that meets the invariants. -/
theorem witness_framed :
    let b := (ready 6554 0x4100000000000000).encodeBody.frameBody
    b.Inv ∧ b.RecordInv ∧ b.fsm ∈ [Fsm.framed, .channeled, .matched, .mismatched] := by
  refine ⟨⟨⟨by decide, by decide, by decide, by decide⟩, by decide +kernel, by decide +kernel, by decide +kernel,
    by decide +kernel, by decide +kernel, by decide +kernel, by decide +kernel, by decide +kernel⟩,
    ⟨by decide +kernel, by decide +kernel, by decide +kernel, by decide +kernel, by decide +kernel,
      by decide +kernel⟩, by decide⟩

/-- VerifyIsDivisionOfTheReceivedFrame and the three statements about error patterns: the "A" frame received with the
pattern P·x^63, the last one that fits, with one bit flipped at either end, and with none. -/
theorem witness_error_patterns :
    (∀ x ∈ ([(0, 0x4100000000000000CF), (1, 0x4100000000000000CE), (2 ^ 71, 0xC100000000000000CF),
        (0x107 * 2 ^ 63, 0xC280000000000000CF)] : List (Nat × BitVec 72)),
      (received x.2).cfgValid = true ∧ (received x.2).fsm = .channeled ∧ x.1 < 2 ^ 72 ∧
      (received x.2).txData.toNat < 2 ^ (received x.2).actChunkBits.toNat ∧
      (received x.2).rxFrame.toNat < 2 ^ ((received x.2).actChunkBits.toNat + 8) ∧
      (received x.2).rxFrame.toNat = ((received x.2).txData.toNat * 2 ^ 8 +
        (divideLiteral (received x.2).txData.toNat (received x.2).actChunkBits.toNat
          (received x.2).actPoly).toNat) ^^^ x.1) ∧
    63 ≤ (received 0).actChunkBits.toNat + 8 - 9 ∧ (received 0).actPoly = 0x107 ∧
    (received 0).actPoly.getLsbD 0 = true := by decide +kernel

/-- PrbsStepIsTheXorshift, OneDrawPerFrameBitInOrder, ChannelBoundaryLaws: a nonzero state, and framed blocks of the widest
and the smallest chunk, without noise and with every bit flipped (L1.4). -/
theorem witness_channel :
    (1 : Word) ≠ 0 ∧
    (let b : Block := { configured 0x107 64 0 1 with txFrame := 0x4100000000000000CF, fsm := .framed };
      b.cfgValid = true ∧ b.fsm = .framed ∧ b.actChunkBits.toNat ≤ 64 ∧ b.actPThresh = 0 ∧
      b.txFrame.toNat < 2 ^ (b.actChunkBits.toNat + 8)) ∧
    (let b : Block := { configured 0x107 2 65536 1 with txFrame := 0x20E, fsm := .framed };
      b.cfgValid = true ∧ b.fsm = .framed ∧ b.actChunkBits.toNat ≤ 64 ∧ b.actPThresh = 65536 ∧
      b.txFrame.toNat < 2 ^ (b.actChunkBits.toNat + 8)) := by
  decide +kernel

/-- NoiselessChunkAlwaysMatches and ComplementingChannelAlwaysMismatches: the smallest and the widest chunk. -/
theorem witness_boundary_chunks :
    (∀ c ∈ ([2, 64] : List (BitVec 7)),
      (configured 0x107 c 0 1).cfgValid = true ∧ (configured 0x107 c 0 1).fsm ∈ [Fsm.idle, .matched, .mismatched] ∧
      (configured 0x107 c 0 1).actPThresh = 0 ∧ 2 ≤ (configured 0x107 c 0 1).actChunkBits.toNat ∧
      (configured 0x107 c 0 1).actChunkBits.toNat ≤ 64) ∧
    (∀ c ∈ ([2, 64] : List (BitVec 7)),
      (configured 0x107 c 65536 1).cfgValid = true ∧
      (configured 0x107 c 65536 1).fsm ∈ [Fsm.idle, .matched, .mismatched] ∧
      (configured 0x107 c 65536 1).actPoly = 0x107 ∧ (configured 0x107 c 65536 1).actPThresh = 65536 ∧
      2 ≤ (configured 0x107 c 65536 1).actChunkBits.toNat ∧
      (configured 0x107 c 65536 1).actChunkBits.toNat ≤ 64) := by decide

theorem witness_noiseless_legal : (configured 0x107 2 0 1).ConfigLegal := ⟨by decide, by decide, by decide, by decide⟩

/-- PartitionIsTheSourcesSplit: the shortest window. -/
theorem witness_partition : 1 ≤ 1 ∧ splitBits 1 [true, false] = [[true], [false]] := by decide

/-- ChunkPseudoInstructionStagesAPaddedChunk: one valid bit, and a full chunk. -/
theorem witness_chunk_line :
    (ready 0 0).cfgValid = true ∧ (ready 0 0).actChunkBits.toNat ≤ 64 ∧ 1 ≤ 1 ∧
    64 ≤ (ready 0 0).actChunkBits.toNat ∧
    (onBus (ready 0 0) (HostLine.chunk 0x41 8).events).pending = (HostLine.chunk 0x41 8).events ++ [] := by decide

end Sys2Proof.Tests
end

namespace Sys2Proof.Machine

/-! ## The fields of STATUS (10_state.md R22, R25 to R27) -/

/-- A concatenation as arithmetic: the first string stands in front of the second. -/
theorem append_toNat {m n : Nat} (x : BitVec m) (y : BitVec n) : (x ++ y).toNat = x.toNat * 2 ^ n + y.toNat := by
  rw [BitVec.toNat_append, ← Nat.shiftLeft_add_eq_or_of_lt y.isLt, Nat.shiftLeft_eq]

theorem readReg_status_toNat (b : Block) : (b.readReg .status).toNat =
    b.fsm.code.toNat * 2 ^ 8 + b.errCause.code.toNat * 2 ^ 4 + b.matchFlag.toNat * 2 ^ 2 + b.err.toNat * 2 +
      b.cfgValid.toNat := by
  have hlt := b.statusBits.isLt
  rw [Block.readReg, BitVec.toNat_setWidth, Nat.mod_eq_of_lt (by omega)]
  simp only [Block.statusBits, append_toNat, BitVec.toNat_ofBool, BitVec.toNat_ofNat]
  omega

theorem readReg_status_lt (b : Block) : (b.readReg .status).toNat < 2 ^ 11 := by
  rw [Block.readReg, BitVec.toNat_setWidth]
  exact lt_of_le_of_lt (Nat.mod_le _ _) b.statusBits.isLt

/-- The three flags lie below bit 3. -/
theorem status_flags_lt (m e c : Bool) : m.toNat * 2 ^ 2 + e.toNat * 2 + c.toNat < 2 ^ 3 := by
  have hm := m.toNat_lt
  have he := e.toNat_lt
  have hc := c.toNat_lt
  omega

theorem readReg_status_fsm (b : Block) : (b.readReg .status).toNat / 2 ^ 8 % 2 ^ 3 = b.fsm.code.toNat := by
  have hf := b.fsm.code.isLt
  have hc := b.errCause.code.isLt
  have hlow := status_flags_lt b.matchFlag b.err b.cfgValid
  rw [readReg_status_toNat]
  omega

theorem readReg_status_errCause (b : Block) :
    (b.readReg .status).toNat / 2 ^ 4 % 2 ^ 4 = b.errCause.code.toNat := by
  have hc := b.errCause.code.isLt
  have hlow := status_flags_lt b.matchFlag b.err b.cfgValid
  rw [readReg_status_toNat]
  omega

/-- The flags, from bit 0 up, and the reserved bit above them. -/
theorem readReg_status_flag (b : Block) (i : Nat) (hi : i < 4) :
    (b.readReg .status).getLsbD i = [b.cfgValid, b.err, b.matchFlag, false][i] := by
  rw [Block.readReg, BitVec.getLsbD_setWidth, Block.statusBits]
  simp only [BitVec.getLsbD_append]
  interval_cases i <;> simp

theorem matchFlag_eq_true (b : Block) : b.matchFlag = true ↔ b.fsm = .matched := by
  unfold Block.matchFlag
  cases b.fsm <;> decide

/-- The codes of FSM (R27). -/
theorem Fsm.code_mem (f : Fsm) : (f.code.toNat, f) ∈ ([(0, .idle), (1, .encoded), (2, .framed), (3, .channeled),
    (4, .matched), (5, .mismatched)] : List (Nat × Fsm)) := by
  cases f <;> decide

/-- The codes of ERR_CAUSE (R26). -/
theorem ErrCause.code_mem (c : ErrCause) : (c.code.toNat, c) ∈ ([(0x0, .none), (0x1, .cfgChunkZero),
    (0x2, .cfgChunkTooLarge), (0x3, .cfgPolyTooLong), (0x4, .cfgPolyMsbZero), (0x5, .cfgProbRange),
    (0x8, .cmdIllegal), (0x9, .cmdNotConfigured), (0xA, .cmdBadLength),
    (0xB, .cmdSequence)] : List (Nat × ErrCause)) := by
  cases c <;> decide

theorem Fsm.code_le (f : Fsm) : f.code.toNat ≤ 5 := by
  cases f <;> decide

theorem ErrCause.code_legal (c : ErrCause) :
    c.code.toNat ∈ [0x0, 0x1, 0x2, 0x3, 0x4, 0x5, 0x8, 0x9, 0xA, 0xB] :=
  List.mem_map_of_mem (f := Prod.fst) c.code_mem

/-- No host write stores in a field of STATUS (R57, R58). -/
theorem readReg_status_writeReg (r : RegName) (v : Word) (b : Block) :
    (b.writeReg r v).readReg .status = b.readReg .status := by
  cases r <;> rfl

/-! ## Single accesses -/

theorem step_read {s : State} (r : RegName) {rest : List HostEvent} (h : s.pending = .read r.offset .bits32 :: rest) :
    step s = .next { s with pending := rest, readLog := s.block.readReg r :: s.readLog } := by
  rw [step_cons h]
  exact serveRead_reg r _

/-- A write to a read-only register is ignored (20_memory.md R58). -/
theorem step_write_ro {s : State} {r : RegName} {v : Word} {rest : List HostEvent} (hr : r.access = .ro)
    (h : s.pending = .write r.offset .bits32 v :: rest) : step s = .next { s with pending := rest } := by
  rw [step_cons h, serve, serveWrite_reg, writeTarget, hr]

/-- A step that changes what STATUS reads has served a hardware reset or a CMD write. -/
theorem step_status_changed {s t : State} (h : step s = .next t)
    (hne : t.block.readReg .status ≠ s.block.readReg .status) :
    ∃ later, s.pending = .hardwareReset :: later ∨ ∃ w, s.pending = cmdWrite w :: later := by
  rcases step_cases h with ⟨-, rfl⟩ | ⟨rest, ⟨r, -, rfl⟩ | ⟨r, v, -, -, rfl⟩ | ⟨r, v, -, -, rfl⟩ | ⟨w, i, hp, -, -⟩ |
    ⟨w, e, hp, -, -⟩ | ⟨hp, -⟩⟩
  · exact absurd rfl hne
  · exact absurd rfl hne
  · exact absurd (readReg_status_writeReg r v s.block) hne
  · exact absurd rfl hne
  · exact ⟨rest, .inr ⟨w, hp⟩⟩
  · exact ⟨rest, .inr ⟨w, hp⟩⟩
  · exact ⟨rest, .inl hp⟩

/-- Settles O7: a read of STATUS returns the word whose fields the lemmas above give, and of the events a step can serve
(`step_cases`) only a CMD write and a hardware reset touch a field of it. -/
theorem statusWordLayout : Obligations.StatusWordLayout := by
  intro s rest
  have hflag := readReg_status_flag s.block
  refine ⟨fun hp => ⟨s.block.readReg .status, step_read .status hp, hflag 0 (by decide), hflag 1 (by decide), ?_,
    hflag 3 (by decide), ?_, ?_, readReg_status_lt _⟩, fun v hp => step_write_ro (r := .status) rfl hp,
    fun t h hne => step_status_changed h hne⟩
  · rw [hflag 2 (by decide)]
    exact matchFlag_eq_true s.block
  · rw [readReg_status_errCause]
    exact ErrCause.code_mem _
  · rw [readReg_status_fsm]
    exact Fsm.code_mem _

/-! ## The generator never becomes 0 (10_state.md R46, 43_channel.md R91, R93) -/

theorem eq_zero_of_eq_shiftLeft {w k : Nat} (hk : 0 < k) {x : BitVec w} (h : x = x <<< k) : x = 0 := by
  have hbit : ∀ i, x.getLsbD i = false := by
    intro i
    induction i using Nat.strong_induction_on with
    | _ i ih =>
      rw [h, BitVec.getLsbD_shiftLeft]
      by_cases hik : i < k
      · simp [hik]
      · simp [ih (i - k) (by omega)]
  exact BitVec.eq_of_getLsbD_eq fun i _ => by simp [hbit i]

theorem eq_zero_of_eq_ushiftRight {w k : Nat} (hk : 0 < k) {x : BitVec w} (h : x = x >>> k) : x = 0 := by
  have hdiv : x.toNat = x.toNat / 2 ^ k := by
    conv_lhs => rw [h, BitVec.toNat_ushiftRight, Nat.shiftRight_eq_div_pow]
  by_contra hx
  have hpos : 0 < x.toNat := Nat.pos_of_ne_zero fun h0 => hx (BitVec.eq_of_toNat_eq h0)
  have : x.toNat / 2 ^ k < x.toNat := Nat.div_lt_self hpos (Nat.one_lt_two_pow hk.ne')
  omega

/-- Each of the three shifts of the xorshift maps 0 alone to 0. -/
theorem xorshiftStep_ne_zero {p : Word} (hp : p ≠ 0) : xorshiftStep p ≠ 0 := by
  intro h
  unfold xorshiftStep at h
  have h2 := eq_zero_of_eq_shiftLeft (by decide) (BitVec.xor_eq_zero_iff.1 h)
  have h1 := eq_zero_of_eq_ushiftRight (by decide) (BitVec.xor_eq_zero_iff.1 h2)
  exact hp (eq_zero_of_eq_shiftLeft (by decide) (BitVec.xor_eq_zero_iff.1 h1))

theorem xorshiftStep_iterate_ne_zero (n : Nat) {p : Word} (hp : p ≠ 0) : xorshiftStep^[n] p ≠ 0 := by
  induction n generalizing p with
  | zero => exact hp
  | succ n ih => exact ih (xorshiftStep_ne_zero hp)

theorem seededState_ne_zero (seed : Word) : seededState seed ≠ 0 := by
  unfold seededState
  split
  · decide
  · assumption

/-! ## The widths of the values the commands write (10_state.md R46) -/

theorem zextLow_toNat_lt {w : Nat} (n : Nat) (v : BitVec w) : (zextLow n v).toNat < 2 ^ n := by
  rw [zextLow_toNat]
  exact Nat.mod_lt _ (by positivity)

theorem frameOf_toNat_lt (c : Nat) (chunk : BitVec 64) (check : BitVec 8) :
    (frameOf c chunk check).toNat < 2 ^ (c + 8) := by
  have hdata : chunk.toNat % 2 ^ c < 2 ^ c := Nat.mod_lt _ (by positivity)
  have hcheck := check.isLt
  rw [frameOf_toNat, Nat.pow_add]
  omega

theorem dataPart_toNat_lt (c : Nat) (frame : BitVec 72) : (dataPart c frame).toNat < 2 ^ c := by
  rw [dataPart_toNat]
  exact Nat.mod_lt _ (by positivity)

/-- The channel of an n-bit frame leaves every bit above the frame 0, whatever the generator. -/
theorem corruptFrame_toNat_lt (prbsStep : Word → Word) (T : BitVec 17) (n : Nat) (frame : BitVec 72) (p : Word) :
    (corruptFrame prbsStep T n frame p).1.toNat < 2 ^ n := by
  apply Nat.lt_pow_two_of_testBit
  intro i hi
  rw [BitVec.testBit_toNat, corruptFrame, corruptLoop_above _ _ _ _ _ hi, zextLow_getLsbD]
  simp [Nat.not_lt.2 hi]

theorem corruptFrame_state (prbsStep : Word → Word) (T : BitVec 17) (n : Nat) (frame : BitVec 72) (p : Word) :
    (corruptFrame prbsStep T n frame p).2 = prbsStep^[n] p :=
  corruptLoop_state prbsStep T n _ p

/-! ## The invariant of the block, operation by operation (R45, R46, 44_pipeline.md R107) -/

theorem Block.reset_inv : Block.reset.Inv where
  config := ⟨by decide, by decide, by decide, by decide⟩
  prbs_ne_zero := by decide
  txData_high_zero := by decide
  rxData_high_zero := by decide
  txFrame_high_zero := by decide
  rxFrame_high_zero := by decide
  no_error_no_cause _ := rfl
  counters := rfl
  chunk_in_run h := absurd h (by decide)

namespace Block.Inv

variable {b : Block}

/-- Fields of STATUS may be written freely, as long as ERR and ERR_CAUSE agree and a chunk is in progress only in a
run. -/
theorem with_status (h : b.Inv) {valid err : Bool} {cause : ErrCause} {fsm : Fsm}
    (herr : err = false → cause = .none) (hrun : fsm.hasChunk = true → valid = true) :
    Block.Inv { b with cfgValid := valid, err := err, errCause := cause, fsm := fsm } where
  config := ⟨h.config.two_le_chunk, h.config.chunk_le, h.config.poly_first_bit, h.config.thresh_le⟩
  prbs_ne_zero := h.prbs_ne_zero
  txData_high_zero := h.txData_high_zero
  rxData_high_zero := h.rxData_high_zero
  txFrame_high_zero := h.txFrame_high_zero
  rxFrame_high_zero := h.rxFrame_high_zero
  no_error_no_cause := herr
  counters := h.counters
  chunk_in_run := hrun

/-- The registers that the host writes itself are free. -/
theorem with_rw_registers (h : b.Inv) (poly : BitVec 9) (chunkBits : BitVec 7) (pThresh : BitVec 17) (seed : Word)
    (data : BitVec 64) : Block.Inv
      { b with poly := poly, chunkBits := chunkBits, pThresh := pThresh, seed := seed, data := data } where
  config := ⟨h.config.two_le_chunk, h.config.chunk_le, h.config.poly_first_bit, h.config.thresh_le⟩
  prbs_ne_zero := h.prbs_ne_zero
  txData_high_zero := h.txData_high_zero
  rxData_high_zero := h.rxData_high_zero
  txFrame_high_zero := h.txFrame_high_zero
  rxFrame_high_zero := h.rxFrame_high_zero
  no_error_no_cause := h.no_error_no_cause
  counters := h.counters
  chunk_in_run := h.chunk_in_run

theorem writeReg (h : b.Inv) (r : RegName) (v : Word) : (b.writeReg r v).Inv := by
  cases r with
  | poly | chunkBits | pThresh | seed | dataLo | dataHi => exact h.with_rw_registers _ _ _ _ _
  | _ => exact h

theorem padBody (h : b.Inv) (n : Nat) : (b.padBody n).Inv :=
  h.with_rw_registers _ _ _ _ _

theorem raise (h : b.Inv) {cause : ErrCause} : (b.raise cause).Inv :=
  h.with_status (fun he => nomatch he) h.chunk_in_run

theorem clearError (h : b.Inv) : b.clearError.Inv :=
  h.with_status (fun _ => rfl) h.chunk_in_run

theorem failConfigure (h : b.Inv) {cause : ErrCause} : (b.failConfigure cause).Inv :=
  h.with_status (fun he => nomatch he) (fun hf => nomatch hf)

/-- A run starts with a legal configuration, a loaded generator and an empty datapath, whatever came before. -/
theorem startRun (hcheck : b.configureCheck = none) : b.startRun.Inv := by
  obtain ⟨htwo, hmax, hpoly, hthresh⟩ := Block.configureCheck_none hcheck
  exact {
    config := ⟨htwo, hmax, hpoly, hthresh⟩
    prbs_ne_zero := seededState_ne_zero b.seed
    txData_high_zero := Nat.two_pow_pos _
    rxData_high_zero := Nat.two_pow_pos _
    txFrame_high_zero := Nat.two_pow_pos _
    rxFrame_high_zero := Nat.two_pow_pos _
    no_error_no_cause := fun _ => rfl
    counters := rfl
    chunk_in_run := fun _ => rfl }

theorem encodeBody (h : b.Inv) (hv : b.cfgValid = true) : b.encodeBody.Inv where
  config := ⟨h.config.two_le_chunk, h.config.chunk_le, h.config.poly_first_bit, h.config.thresh_le⟩
  prbs_ne_zero := h.prbs_ne_zero
  txData_high_zero := zextLow_toNat_lt b.chunkSize b.data
  rxData_high_zero := h.rxData_high_zero
  txFrame_high_zero := h.txFrame_high_zero
  rxFrame_high_zero := h.rxFrame_high_zero
  no_error_no_cause := h.no_error_no_cause
  counters := h.counters
  chunk_in_run _ := hv

theorem frameBody (h : b.Inv) (hv : b.cfgValid = true) : b.frameBody.Inv where
  config := ⟨h.config.two_le_chunk, h.config.chunk_le, h.config.poly_first_bit, h.config.thresh_le⟩
  prbs_ne_zero := h.prbs_ne_zero
  txData_high_zero := h.txData_high_zero
  rxData_high_zero := h.rxData_high_zero
  txFrame_high_zero := frameOf_toNat_lt b.chunkSize b.txData b.check
  rxFrame_high_zero := h.rxFrame_high_zero
  no_error_no_cause := h.no_error_no_cause
  counters := h.counters
  chunk_in_run _ := hv

theorem corruptBody (h : b.Inv) (hv : b.cfgValid = true) : (b.corruptBody xorshiftStep).Inv where
  config := ⟨h.config.two_le_chunk, h.config.chunk_le, h.config.poly_first_bit, h.config.thresh_le⟩
  prbs_ne_zero := by
    rw [Block.corruptBody_prbsState, corruptFrame_state]
    exact xorshiftStep_iterate_ne_zero _ h.prbs_ne_zero
  txData_high_zero := h.txData_high_zero
  rxData_high_zero := h.rxData_high_zero
  txFrame_high_zero := h.txFrame_high_zero
  rxFrame_high_zero := corruptFrame_toNat_lt xorshiftStep b.actPThresh b.frameSize b.txFrame b.prbsState
  no_error_no_cause := h.no_error_no_cause
  counters := h.counters
  chunk_in_run _ := hv

/-- VERIFY counts one burst and one outcome (R107). -/
theorem verifyBody_counters (h : b.Inv) :
    b.verifyBody.burstCount = b.verifyBody.matchCount + b.verifyBody.mismatchCount := by
  have hcount := h.counters
  simp only [Block.verifyBody, Block.judgeBody_burstCount, Block.judgeBody_matchCount,
    Block.judgeBody_mismatchCount, Block.recordBody_burstCount, Block.recordBody_matchCount,
    Block.recordBody_mismatchCount, hcount]
  split
  · ac_rfl
  · ac_rfl

theorem verifyBody (h : b.Inv) (hv : b.cfgValid = true) : b.verifyBody.Inv where
  config := ⟨by simpa [Block.verifyBody] using h.config.two_le_chunk,
    by simpa [Block.verifyBody] using h.config.chunk_le, by simpa [Block.verifyBody] using h.config.poly_first_bit,
    by simpa [Block.verifyBody] using h.config.thresh_le⟩
  prbs_ne_zero := by simpa [Block.verifyBody] using h.prbs_ne_zero
  txData_high_zero := by simpa [Block.verifyBody] using h.txData_high_zero
  rxData_high_zero := by simpa [Block.verifyBody] using dataPart_toNat_lt b.chunkSize b.rxFrame
  txFrame_high_zero := by simpa [Block.verifyBody] using h.txFrame_high_zero
  rxFrame_high_zero := by simpa [Block.verifyBody] using h.rxFrame_high_zero
  no_error_no_cause := by simpa [Block.verifyBody] using h.no_error_no_cause
  counters := h.verifyBody_counters
  chunk_in_run _ := by simpa [Block.verifyBody] using hv

theorem runChunkBody (h : b.Inv) (hv : b.cfgValid = true) : (b.runChunkBody xorshiftStep).Inv :=
  (((h.encodeBody hv).frameBody hv).corruptBody hv).verifyBody hv

theorem ifSequenced (h : b.Inv) {allowed : Fsm → Bool} {body : Block → Block}
    (hbody : b.cfgValid = true → (body b).Inv) : (b.ifSequenced allowed body).Inv := by
  rcases Block.ifSequenced_cases allowed body b with ⟨hv, -, heq⟩ | ⟨-, -, heq⟩ | ⟨-, heq⟩
  · exact heq ▸ hbody hv
  · exact heq ▸ h.raise
  · exact heq ▸ h.raise

theorem padCommand (h : b.Inv) (n : Nat) : (b.padCommand n).Inv := by
  rcases Block.padCommand_cases n b with ⟨-, -, -, heq⟩ | ⟨-, -, heq⟩ | ⟨-, heq⟩
  · exact heq ▸ h.padBody n
  · exact heq ▸ h.raise
  · exact heq ▸ h.raise

theorem configureCommand (h : b.Inv) : b.configureCommand.Inv := by
  rcases Block.configureCommand_cases b with ⟨hcheck, heq⟩ | ⟨cause, -, heq⟩
  · exact heq ▸ startRun hcheck
  · exact heq ▸ h.failConfigure

/-- Every command keeps the invariant. -/
theorem blockOf (h : b.Inv) (i : Instr) : (blockOf i b).Inv := by
  cases i with
  | nop => exact h
  | configure => exact h.configureCommand
  | pad n => exact h.padCommand n
  | encode => exact h.ifSequenced h.encodeBody
  | frame => exact h.ifSequenced h.frameBody
  | corrupt => exact h.ifSequenced h.corruptBody
  | verify => exact h.ifSequenced h.verifyBody
  | runChunk => exact h.ifSequenced h.runChunkBody
  | clearErr => exact h.clearError
  | softReset => exact Block.reset_inv

end Block.Inv

/-! ## The invariant along a run -/

theorem step_keeps_inv {s t : State} (hi : s.block.Inv) (h : step s = .next t) : t.block.Inv := by
  rcases step_cases h with ⟨-, rfl⟩ | ⟨rest, ⟨r, -, rfl⟩ | ⟨r, v, -, -, rfl⟩ | ⟨r, v, -, -, rfl⟩ |
    ⟨w, i, -, -, rfl⟩ | ⟨w, e, -, -, rfl⟩ | ⟨-, rfl⟩⟩
  · exact hi
  · exact hi
  · exact hi.writeReg r v
  · exact hi
  · exact hi.blockOf i
  · exact hi.raise
  · exact Block.reset_inv

theorem Reachable.inv {s : State} (h : Reachable s) : s.block.Inv := by
  induction h with
  | reset events => exact Block.reset_inv
  | step _ hs ih => exact step_keeps_inv ih hs
  | replan events _ ih => exact ih

/-- Settles O44: the block's invariant holds at reset and every step keeps it, so it holds of every reachable state; the
two STATUS fields hold only codes of the types `Fsm` and `ErrCause`. -/
theorem reachableStatesKeepTheStatedInvariants : Obligations.ReachableStatesKeepTheStatedInvariants := by
  intro s hs
  have h := hs.inv
  refine ⟨h.prbs_ne_zero, ?_, ?_, fun _ => ⟨h.txData_high_zero, h.rxData_high_zero, h.txFrame_high_zero,
    h.rxFrame_high_zero⟩, h.no_error_no_cause, ?_⟩
  · rw [readReg_status_fsm]
    exact s.block.fsm.code_le
  · rw [readReg_status_errCause]
    exact s.block.errCause.code_legal
  · rw [h.counters, BitVec.toNat_add]

end Sys2Proof.Machine

namespace Sys2Proof.Machine

/-! ## Host accesses: RO offsets, bus errors, CMD writes and RW writes (20_memory.md R51 to R59) -/

/-- The RO registers are ID, STATUS, PRBS_STATE and every register from TX_DATA_LO on (10_state.md R18). -/
theorem RegName.access_eq_ro_iff (r : RegName) : r.access = .ro ↔
    r.offset = 0x00#8 ∨ r.offset = 0x08#8 ∨ r.offset = 0x1C#8 ∨ 0x28 ≤ r.offset.toNat := by
  cases r <;> decide

/-- A 32-bit access at an aligned offset below 0x78 reaches a register. -/
theorem exists_offset_eq {off : BitVec 8} (haligned : off.toNat % 4 = 0) (hmapped : off.toNat < 0x78) :
    ∃ r : RegName, off = r.offset := by
  have htarget : accessTarget off .bits32 ≠ none := by
    rw [Ne, accessTarget_eq_none]
    simp only [ne_eq, not_true_eq_false, false_or]
    omega
  obtain ⟨r, hr⟩ := Option.ne_none_iff_exists'.1 htarget
  exact ⟨r, (accessTarget_eq_some.1 hr).2⟩

/-- Settles O9: every offset the statement names belongs to a register of the map, and that register is RO. -/
theorem roWriteHasNoEffect : Obligations.RoWriteHasNoEffect := by
  intro s rest off v hoff hp
  have hlegal : off.toNat % 4 = 0 ∧ off.toNat < 0x78 := by
    rcases hoff with rfl | rfl | rfl | ⟨-, hle, haligned⟩
    · decide
    · decide
    · decide
    · exact ⟨haligned, by omega⟩
  obtain ⟨r, rfl⟩ := exists_offset_eq hlegal.1 hlegal.2
  have hro : r.access = .ro := r.access_eq_ro_iff.2 (hoff.imp_right (.imp_right (.imp_right And.left)))
  exact step_write_ro hro hp

/-- No 32-bit write to a register faults: it stores, is ignored, or runs a command, which always answers a next state. -/
theorem writeTarget_next (r : RegName) (v : Word) (s : State) : ∃ t, writeTarget exec r v s = .next t := by
  unfold writeTarget
  cases r.access with
  | rw => exact ⟨_, rfl⟩
  | ro => exact ⟨_, rfl⟩
  | wo =>
    cases hd : decode v with
    | ok i => exact ⟨_, (runCommand_ok hd s).trans (exec_eq_onBlock i s)⟩
    | error e => exact ⟨_, runCommand_error hd s⟩

theorem serveRead_eq_busError {off : BitVec 8} {size : AccessSize} {s : State} :
    serveRead off size s = .fault .busError ↔ accessTarget off size = none := by
  unfold serveRead
  cases accessTarget off size <;> simp

theorem serveWrite_eq_busError {off : BitVec 8} {size : AccessSize} {v : Word} {s : State} :
    serveWrite exec off size v s = .fault .busError ↔ accessTarget off size = none := by
  unfold serveWrite
  cases accessTarget off size with
  | none => simp
  | some r =>
    obtain ⟨t, ht⟩ := writeTarget_next r v s
    simp [ht]

/-- Settles O10: an access faults exactly when it reaches no register (`accessTarget_eq_none`). -/
theorem busErrorExactlyOnIllegalAccesses : Obligations.BusErrorExactlyOnIllegalAccesses := by
  intro s rest off size v
  constructor
  · intro hp
    rw [step_cons hp]
    exact serveRead_eq_busError.trans accessTarget_eq_none
  · intro hp
    rw [step_cons hp]
    exact serveWrite_eq_busError.trans accessTarget_eq_none

theorem stepHost_cmdWrite_ok (execute : Executor) {s : State} {w : Word} {rest : List HostEvent} {i : Instr}
    (hp : s.pending = cmdWrite w :: rest) (hd : decode w = .ok i) :
    stepHost execute s = execute i { s with pending := rest } :=
  (stepHost_cmdWrite execute hp).trans (runCommand_ok hd _)

/-- A CMD write of a word that is no command is refused with CMD_ILLEGAL (30_encoding.md R72). -/
theorem stepHost_cmdWrite_error (execute : Executor) {s : State} {w : Word} {rest : List HostEvent}
    {r : DecodeReject} (hp : s.pending = cmdWrite w :: rest) (hd : decode w = .error r) :
    stepHost execute s = .next { s with pending := rest, block := s.block.raise .cmdIllegal } :=
  (stepHost_cmdWrite execute hp).trans (runCommand_error hd _)

/-- Settles O5: the bus treats a CMD write alike for every executor, this hardware's `exec` and each `execWith`. -/
theorem stepRunsTheDecodedCommand : Obligations.StepRunsTheDecodedCommand := by
  intro s rest w hp
  exact ⟨fun _ => stepHost_cmdWrite_ok exec hp, fun _ => stepHost_cmdWrite_error exec hp, fun prbsStep =>
    ⟨fun _ => stepHost_cmdWrite_ok (execWith prbsStep) hp, fun _ => stepHost_cmdWrite_error (execWith prbsStep) hp⟩⟩

/-- A write to an RW register stores in it, and the step does nothing else (R57). -/
theorem step_write_rw {s : State} {r : RegName} {v : Word} {rest : List HostEvent} (hr : r.access = .rw)
    (h : s.pending = .write r.offset .bits32 v :: rest) :
    step s = .next { s with pending := rest, block := s.block.writeReg r v } := by
  rw [step_cons h, serve, serveWrite_reg, writeTarget, hr]
  rfl

theorem writeReg_dataLo (v : Word) (b : Block) : b.writeReg .dataLo v =
    { b with data := BitVec.ofNat 64 (b.data.toNat / 2 ^ 32 * 2 ^ 32 + v.toNat) } := by
  have hdata : b.data.extractLsb' 32 32 ++ v = BitVec.ofNat 64 (b.data.toNat / 2 ^ 32 * 2 ^ 32 + v.toNat) := by
    apply BitVec.eq_of_toNat_eq
    rw [append_toNat, BitVec.extractLsb'_toNat, Nat.shiftRight_eq_div_pow, BitVec.toNat_ofNat]
    omega
  rw [Block.writeReg, hdata]

theorem writeReg_dataHi (v : Word) (b : Block) : b.writeReg .dataHi v =
    { b with data := BitVec.ofNat 64 (v.toNat * 2 ^ 32 + b.data.toNat % 2 ^ 32) } := by
  have hdata : v ++ b.data.extractLsb' 0 32 = BitVec.ofNat 64 (v.toNat * 2 ^ 32 + b.data.toNat % 2 ^ 32) := by
    apply BitVec.eq_of_toNat_eq
    rw [append_toNat, BitVec.extractLsb'_toNat, Nat.shiftRight_zero, BitVec.toNat_ofNat]
    omega
  rw [Block.writeReg, hdata]

/-- Settles O8: each of the six offsets is an RW register's; a narrow register keeps the low bits of the word by
`BitVec.ofNat_toNat`, and the halves of DATA are the two lemmas above. -/
theorem rwWriteStoresItsLowBits : Obligations.RwWriteStoresItsLowBits := by
  intro s rest v
  simp only [BitVec.ofNat_toNat, ← writeReg_dataLo, ← writeReg_dataHi]
  exact ⟨step_write_rw (r := .poly) rfl, step_write_rw (r := .chunkBits) rfl, step_write_rw (r := .pThresh) rfl,
    step_write_rw (r := .seed) rfl, step_write_rw (r := .dataLo) rfl, step_write_rw (r := .dataHi) rfl⟩

end Sys2Proof.Machine

namespace Sys2Proof

/-! ## The decoder and the encoder as inverses (30_encoding.md R69 to R74) -/

theorem opField_toNat (w : Word) : (opField w).toNat = w.toNat % 2 ^ 4 := by
  rw [opField, BitVec.extractLsb'_toNat, Nat.shiftRight_zero]

theorem nField_toNat (w : Word) : (nField w).toNat = w.toNat / 2 ^ 4 % 2 ^ 7 := by
  rw [nField, BitVec.extractLsb'_toNat, Nat.shiftRight_eq_div_pow]

theorem rsvdField_toNat (w : Word) : (rsvdField w).toNat = w.toNat / 2 ^ 11 := by
  have hw := w.isLt
  rw [rsvdField, BitVec.extractLsb'_toNat, Nat.shiftRight_eq_div_pow]
  omega

/-- A word that decodes has passed the three checks of R72. -/
theorem fields_of_decode {w : Word} {i : Instr} (h : decode w = .ok i) : rsvdField w = 0 ∧
    instrOfOp (opField w).toNat (nField w).toNat = some i ∧ (opField w = 0x2 ∨ nField w = 0) := by
  unfold decode at h
  split at h
  · cases h
  · rename_i hr
    split at h
    · cases h
    · split at h
      · cases h
      · rename_i hi hl
        cases h
        exact ⟨not_not.1 hr, hi, by tauto⟩

/-- The opcode map finds the one command with that opcode, and gives PAD the length. -/
theorem instrOfOp_eq_some {op n : Nat} {i : Instr} (h : instrOfOp op n = some i) :
    op = (opcodeOf i).toNat ∧ ∀ m, i = .pad m → m = n := by
  unfold instrOfOp at h
  split at h <;> cases h <;> simp [opcodeOf]

/-- A command found in the map has the fields of the word, when the word has a length only for PAD. -/
theorem fields_of_instrOfOp {o : BitVec 4} {n : BitVec 7} {i : Instr} (h : instrOfOp o.toNat n.toNat = some i)
    (hn : o = 0x2 ∨ n = 0) : i.WellFormed = true ∧ opcodeOf i = o ∧ lengthOf i = n := by
  obtain ⟨hop, hpad⟩ := instrOfOp_eq_some h
  obtain rfl : o = opcodeOf i := BitVec.eq_of_toNat_eq hop
  cases i with
  | pad m =>
    obtain rfl : m = n.toNat := hpad m rfl
    exact ⟨decide_eq_true n.isLt, rfl, BitVec.ofNat_toNat 7 n⟩
  | _ => exact ⟨rfl, rfl, (hn.resolve_left (by decide)).symm⟩

theorem decode_encode {i : Instr} (hi : i.WellFormed = true) : decode (encode i) = .ok i := by
  cases i with
  | pad n =>
    have hn : n < 2 ^ 7 := of_decide_eq_true hi
    rw [encode, decode_fields]
    simpa [opcodeOf, lengthOf, instrOfOp] using hn
  | _ => decide

/-- A word decodes to a command exactly when it is the word of that well-formed command. -/
theorem decode_eq_ok_iff {w : Word} {i : Instr} :
    decode w = .ok i ↔ i.WellFormed = true ∧ encode i = w := by
  constructor
  · intro h
    obtain ⟨hr, hi, hn⟩ := fields_of_decode h
    obtain ⟨hwf, hop, hlen⟩ := fields_of_instrOfOp hi hn
    refine ⟨hwf, ?_⟩
    calc encode i = rsvdField w ++ nField w ++ opField w := by rw [encode, hlen, hop, hr]; rfl
      _ = w := fields_append w
  · rintro ⟨hwf, rfl⟩
    exact decode_encode hwf

theorem opcodeOf_legal (i : Instr) : (opcodeOf i).toNat ≤ 0x8 ∨ (opcodeOf i).toNat = 0xF := by
  cases i <;> simp [opcodeOf]

/-- Only PAD has a length (R70). -/
theorem lengthOf_eq_zero {i : Instr} (h : opcodeOf i ≠ 0x2) : lengthOf i = 0 := by
  cases i with
  | pad n => exact absurd rfl h
  | _ => rfl

/-- The illegal words of R73, by the numbers in their fields. -/
theorem decode_illegal {w : Word} (h : (0x9 ≤ w.toNat % 16 ∧ w.toNat % 16 ≤ 0xE) ∨ w.toNat / 2 ^ 11 ≠ 0 ∨
    (w.toNat / 2 ^ 4 % 2 ^ 7 ≠ 0 ∧ w.toNat % 16 ≠ 0x2)) : ∃ r, decode w = .error r := by
  cases hd : decode w with
  | error r => exact ⟨r, rfl⟩
  | ok i =>
    obtain ⟨hwf, rfl⟩ := decode_eq_ok_iff.1 hd
    obtain ⟨hop, hlen, hrsvd⟩ := Laws.EncodingFields.of_append i hwf
    rw [← rsvdField_toNat, hrsvd, ← nField_toNat, hlen, show 16 = 2 ^ 4 from rfl, ← opField_toNat, hop] at h
    rcases h with ⟨hge, hle⟩ | hne | ⟨hlen_ne, hop_ne⟩
    · have := opcodeOf_legal i
      omega
    · exact absurd rfl hne
    · have hzero : lengthOf i = 0 := lengthOf_eq_zero fun hpad => hop_ne (congrArg BitVec.toNat hpad)
      exact absurd (congrArg BitVec.toNat hzero) hlen_ne

/-! ## The masks and words of the table (R74) -/

/-- The mask of PAD keeps RSVD and OP and drops N. -/
theorem and_padMask (w : Word) : w &&& 0xFFFFF80F#32 = rsvdField w ++ 0#7 ++ opField w := by
  calc w &&& 0xFFFFF80F#32
      = (rsvdField w ++ nField w ++ opField w) &&& (BitVec.allOnes 21 ++ 0#7 ++ BitVec.allOnes 4) :=
        congrArg₂ (· &&& ·) (fields_append w).symm (by decide)
    _ = rsvdField w ++ 0#7 ++ opField w := by
        rw [BitVec.and_append, BitVec.and_append, BitVec.and_allOnes, BitVec.and_allOnes, BitVec.and_zero]

/-- The mask of PAD selects the words with RSVD = 0 and the opcode of PAD. -/
theorem and_padMask_eq_pad_iff (w : Word) :
    w &&& 0xFFFFF80F#32 = 0x00000002#32 ↔ rsvdField w = 0 ∧ opField w = 0x2 := by
  rw [and_padMask]
  constructor
  · intro h
    have hr := congrArg rsvdField h
    have ho := congrArg opField h
    rw [rsvdField_append] at hr
    rw [opField_append] at ho
    exact ⟨hr, ho⟩
  · rintro ⟨hr, ho⟩
    rw [hr, ho]
    rfl

/-- The word of PAD N as the table writes it. -/
theorem encode_pad {n : Nat} (hn : n ≤ 127) : encode (.pad n) = 0x00000002#32 ||| (BitVec.ofNat 32 n <<< 4) := by
  have hlen : BitVec.ofNat 32 n <<< 4 = 0#21 ++ BitVec.ofNat 7 n ++ 0#4 := by
    apply BitVec.eq_of_toNat_eq
    simp only [Machine.append_toNat, BitVec.toNat_shiftLeft, BitVec.toNat_ofNat, Nat.shiftLeft_eq]
    omega
  calc encode (.pad n)
      = (0#21 ++ 0#7 ++ 0x2#4) ||| (0#21 ++ BitVec.ofNat 7 n ++ 0#4) := by
        rw [BitVec.or_append, BitVec.or_append, BitVec.zero_or, BitVec.zero_or, BitVec.or_zero]
        rfl
    _ = 0x00000002#32 ||| (BitVec.ofNat 32 n <<< 4) := congrArg₂ (· ||| ·) (by decide) hlen.symm

theorem pad_wellFormed {n : Nat} (hn : n ≤ 127) : (Instr.pad n).WellFormed = true :=
  decide_eq_true (Nat.lt_succ_of_le hn)

theorem decode_padWord {n : Nat} (hn : n ≤ 127) :
    decode (0x00000002#32 ||| (BitVec.ofNat 32 n <<< 4)) = .ok (.pad n) :=
  decode_eq_ok_iff.2 ⟨pad_wellFormed hn, encode_pad hn⟩

/-- The PAD words are the words with RSVD = 0 and the opcode of PAD. -/
theorem decode_eq_pad_iff (w : Word) :
    (∃ n, n ≤ 127 ∧ decode w = .ok (.pad n)) ↔ rsvdField w = 0 ∧ opField w = 0x2 := by
  constructor
  · rintro ⟨n, -, hd⟩
    obtain ⟨hwf, rfl⟩ := decode_eq_ok_iff.1 hd
    obtain ⟨hop, -, hrsvd⟩ := Laws.EncodingFields.pad n hwf
    exact ⟨hrsvd, hop⟩
  · rintro ⟨hr, ho⟩
    have hn : (nField w).toNat ≤ 127 := Nat.le_of_lt_succ (nField w).isLt
    refine ⟨(nField w).toNat, hn, decode_eq_ok_iff.2 ⟨pad_wellFormed hn, ?_⟩⟩
    calc encode (.pad (nField w).toNat)
        = rsvdField w ++ nField w ++ opField w := by
          rw [encode, lengthOf, BitVec.ofNat_toNat, BitVec.setWidth_eq, hr, ho]
          rfl
      _ = w := fields_append w

/-- A command without an operand is selected by its whole word. -/
theorem and_fullMask_eq_word_iff {i : Instr} {word : Word} (hrow : i.WellFormed = true ∧ encode i = word) (w : Word) :
    w &&& 0xFFFFFFFF#32 = word ↔ decode w = .ok i := by
  obtain ⟨hwf, rfl⟩ := hrow
  rw [show 0xFFFFFFFF#32 = BitVec.allOnes 32 from rfl, BitVec.and_allOnes, decode_eq_ok_iff, eq_comm,
    and_iff_right hwf]

/-- Settles O2: the words of the table are the encoder's, and a word decodes to a command exactly when the encoder
gives it (`decode_eq_ok_iff`). -/
theorem commandWordsOfTheTable : Obligations.CommandWordsOfTheTable := by
  refine ⟨fun i word hmem w => ?_, fun n => decode_padWord, fun w => ?_, decode_padWord (n := 8) (by decide),
    decode_padWord (n := 16) (by decide), decode_padWord (n := 24) (by decide), decode_padWord (n := 64) (by decide)⟩
  · have hrow := (show ∀ row ∈ _, row.1.WellFormed = true ∧ encode row.1 = row.2 by decide) _ hmem
    exact and_fullMask_eq_word_iff hrow w
  · exact (and_padMask_eq_pad_iff w).trans (decode_eq_pad_iff w).symm

end Sys2Proof

namespace Sys2Proof.Machine

/-! ## Illegal words and NOP (30_encoding.md R73) -/

/-- Without a valid configuration the six data commands are refused, before any other check (check 2 of R119). -/
theorem blockOf_unconfigured {i : Instr} {b : Block} (hv : b.cfgValid = false)
    (hi : i ∉ [.nop, .configure, .clearErr, .softReset]) : blockOf i b = b.raise .cmdNotConfigured := by
  cases i with
  | nop | configure | clearErr | softReset => simp at hi
  | pad n => simp [blockOf, Block.padCommand, Block.ifConfigured, hv]
  | _ => exact Block.ifSequenced_unconfigured _ _ hv

/-- The block after reset and a CONFIGURE that failed on CHUNK_BITS = 0, with CHUNK_BITS set back to 64 since: every
command but NOP changes its ERR_CAUSE, and so does a refused word. -/
def Block.afterFailedConfigure : Block := Block.reset.failConfigure .cfgChunkZero

theorem blockOf_changes_errCause {i : Instr} (hi : i ≠ .nop) :
    (blockOf i Block.afterFailedConfigure).errCause ≠ .cfgChunkZero := by
  cases i with
  | nop => exact absurd rfl hi
  | configure | clearErr | softReset => decide
  | _ =>
    rw [blockOf_unconfigured rfl (by simp)]
    decide

/-- A host that has planned the one CMD write of `w` on `Block.afterFailedConfigure`. -/
def stateAfterFailedConfigure (w : Word) : State :=
  { State.reset with block := Block.afterFailedConfigure, pending := [cmdWrite w] }

/-- Any word but NOP's gives that block another ERR_CAUSE: a command by `blockOf_changes_errCause`, and an illegal word
by its own cause. -/
theorem step_changes_errCause {w : Word} (hw : w ≠ 0) {t : State} (h : step (stateAfterFailedConfigure w) = .next t) :
    t.block.errCause ≠ .cfgChunkZero := by
  have hp : (stateAfterFailedConfigure w).pending = [cmdWrite w] := rfl
  cases hd : decode w with
  | ok i =>
    have hi : i ≠ .nop := by
      rintro rfl
      exact hw (decode_eq_ok_iff.1 hd).2.symm
    rw [exec_next ((stepHost_cmdWrite_ok exec hp hd).symm.trans h)]
    exact blockOf_changes_errCause hi
  | error r =>
    obtain rfl := Host.Outcome.next.inj ((stepHost_cmdWrite_error exec hp hd).symm.trans h)
    simp

/-- Settles O4: an illegal word does not decode, so it is refused; and the one block `Block.afterFailedConfigure` shows
that every word but 0 changes something. -/
theorem illegalWordsAreRefusedAndOnlyNopDoesNothing : Obligations.IllegalWordsAreRefusedAndOnlyNopDoesNothing := by
  refine ⟨fun s rest w hw hp => ?_, fun w => ⟨fun h => ?_, ?_⟩⟩
  · obtain ⟨r, hd⟩ := decode_illegal hw
    exact stepHost_cmdWrite_error exec hp hd
  · by_contra hw
    exact step_changes_errCause hw (h (stateAfterFailedConfigure w) [] rfl) rfl
  · rintro rfl s rest hp
    exact stepHost_cmdWrite_ok (i := .nop) exec hp rfl

end Sys2Proof.Machine

namespace Sys2Proof.Machine

/-! ## PAD (41_framer.md R78) -/

/-- A command changes the block as `blockOf` says and leaves the host's lists. -/
theorem exec_of_blockOf {i : Instr} {s : State} {b : Block} (h : blockOf i s.block = b) :
    exec i s = .next { s with block := b } := by
  rw [exec_eq_onBlock, State.onBlock, h]

theorem Block.ifConfigured_runs {b : Block} (body : Block → Block) (hv : b.cfgValid = true) :
    b.ifConfigured body = body b :=
  if_pos hv

theorem Block.padCommand_bad_length {n : Nat} {b : Block} (hv : b.cfgValid = true) (hn : n = 0 ∨ b.chunkSize < n) :
    b.padCommand n = b.raise .cmdBadLength :=
  (Block.ifConfigured_runs _ hv).trans (if_pos hn)

theorem Block.padCommand_runs {n : Nat} {b : Block} (hv : b.cfgValid = true) (hpos : 1 ≤ n) (hn : n ≤ b.chunkSize) :
    b.padCommand n = b.padBody n :=
  (Block.ifConfigured_runs _ hv).trans (if_neg (by omega))

/-- Settles O20: one equation of PAD for each of R78's cases, and `padBody_data_toNat` for the value of the padded
chunk, which the bound c ≤ 64 keeps within DATA. -/
theorem padFollowsItsRule : Obligations.PadFollowsItsRule := by
  refine ⟨fun n => decode_padWord, fun s n => ⟨fun hv => ?_, fun hv hn => ?_, fun hv hc hpos hn => ?_⟩⟩
  · exact exec_of_blockOf (blockOf_unconfigured hv (by simp))
  · exact exec_of_blockOf (Block.padCommand_bad_length hv hn)
  · exact ⟨(s.block.padBody n).data, exec_of_blockOf (Block.padCommand_runs hv hpos hn), padBody_data_toNat hc hn⟩

end Sys2Proof.Machine

namespace Sys2Proof.Machine

/-! ## The register form and the source's division (42_crc.md R82, R83) -/

/-- One more bit at the end of the value is one more step of the register. -/
theorem crc8_snoc (v L : Nat) (bit : Bool) (P : BitVec 9) :
    crc8 (2 * v + bit.toNat) (L + 1) P = crcStep (P.setWidth 8) (crc8 v L P) bit := by
  calc crc8 (2 * v + bit.toNat) (L + 1) P
      = crcLoop (P.setWidth 8) (v * 2 ^ 1 + bit.toNat) (1 + L) 0 := by
        rw [crc8, Nat.mul_comm 2 v, Nat.add_comm L, Nat.pow_one]
    _ = crcLoop (P.setWidth 8) bit.toNat 1 (crc8 v L P) := crcLoop_append _ v _ 1 L 0 bit.toNat_lt
    _ = crcStep (P.setWidth 8) (crc8 v L P) bit := by
        rw [crcLoop, crcLoop, Nat.testBit_zero]
        cases bit <;> rfl

/-- The working register of the literal division: the remainder register over the next eight bits of the extended data,
and behind it bit `i`, the last one consumed. -/
def divideWindow (e : Nat) (r : BitVec 8) (i : Nat) : BitVec 9 :=
  (r ^^^ BitVec.ofNat 8 (e >>> (i + 1))) ++ BitVec.ofBool (e.testBit i)

/-- The division starts with an empty remainder register. -/
theorem ofNat_div_eq_divideWindow (e i : Nat) : BitVec.ofNat 9 (e / 2 ^ i) = divideWindow e 0 i := by
  have hxor : (0 : BitVec 8) ^^^ BitVec.ofNat 8 (e >>> (i + 1)) = BitVec.ofNat 8 (e >>> (i + 1)) := BitVec.zero_xor
  rw [divideWindow, hxor]
  apply BitVec.eq_of_toNat_eq
  rw [append_toNat, BitVec.toNat_ofNat, BitVec.toNat_ofNat, BitVec.toNat_ofBool, Nat.toNat_testBit,
    Nat.shiftRight_eq_div_pow, Nat.pow_succ 2 i, ← Nat.div_div_eq_div_mul]
  omega

/-- The division from a window on is the register form from its remainder register on: the eight zero bits of the
extended data are what the window holds at the end. -/
theorem divideLoop_divideWindow (P : BitVec 9) (v i : Nat) (r : BitVec 8) :
    (divideXor P (divideLoop P (v * 2 ^ 8) i (divideWindow (v * 2 ^ 8) r i))).setWidth 8 =
      crcLoop (P.setWidth 8) v (i + 1) r := by
  have hbit : ∀ j, (v * 2 ^ 8).testBit (j + 8) = v.testBit j := fun j => by
    rw [Nat.testBit_mul_two_pow, Nat.add_sub_cancel, decide_eq_true (Nat.le_add_left 8 j), Bool.true_and]
  induction i generalizing r with
  | zero =>
    have hzero : BitVec.ofNat 8 ((v * 2 ^ 8) >>> 0) = 0#8 := by
      apply BitVec.eq_of_toNat_eq
      simp
    rw [divideLoop, divideWindow, divideXor_window, hbit, hzero, BitVec.xor_zero]
    rfl
  | succ i ih =>
    rw [divideLoop, divideWindow, divideXor_window, hbit, crcLoop]
    exact ih _

/-- The register form is the source's division; the empty value of length 0 has check code 0 in both. -/
theorem crc8_eq_divideLiteral {v L : Nat} (P : BitVec 9) (hv : v < 2 ^ L) : crc8 v L P = divideLiteral v L P := by
  cases L with
  | zero =>
    obtain rfl : v = 0 := Nat.lt_one_iff.1 hv
    simp [crc8, crcLoop, divideLiteral, divideLoop, divideXor]
  | succ i =>
    rw [divideLiteral, Nat.add_sub_cancel, ofNat_div_eq_divideWindow, divideLoop_divideWindow, crc8]

/-- The register form does not read P[8] (R89). -/
theorem crc8_congr_poly (v L : Nat) {P Q : BitVec 9} (h : P.toNat % 2 ^ 8 = Q.toNat % 2 ^ 8) :
    crc8 v L P = crc8 v L Q := by
  have hlow : P.setWidth 8 = Q.setWidth 8 := BitVec.eq_of_toNat_eq (by simpa only [BitVec.toNat_setWidth] using h)
  rw [crc8, crc8, hlow]

/-- Settles O46: `crc8_snoc` is the rule's loop, `crc8_eq_divideLiteral` the equality with the source's division, and
through it the division does not read P[8] either. -/
theorem registerFormEqualsTheNormativeDivision : Obligations.RegisterFormEqualsTheNormativeDivision := by
  refine ⟨fun v P => rfl, fun v L bit P => ?_, fun v L P _ hv => crc8_eq_divideLiteral P hv,
    fun v L P Q _ hv hPQ => ?_⟩
  · rw [crc8_snoc, crcStep, BitVec.msb_eq_getLsbD_last, BitVec.ofNat_toNat]
  · have hcrc := crc8_congr_poly v L hPQ
    exact ⟨hcrc, by rw [← crc8_eq_divideLiteral P hv, ← crc8_eq_divideLiteral Q hv, hcrc]⟩

/-! ## ENCODE (R86) -/

theorem Fsm.startsChunk_eq_true {f : Fsm} (h : f = .idle ∨ f = .matched ∨ f = .mismatched) : f.startsChunk = true := by
  rcases h with rfl | rfl | rfl <;> rfl

theorem Fsm.startsChunk_eq_false {f : Fsm} (h : f = .encoded ∨ f = .framed ∨ f = .channeled) :
    f.startsChunk = false := by
  rcases h with rfl | rfl | rfl <;> rfl

/-- The check code of ENCODE in the source's own form. -/
theorem Block.encodeBody_eq (b : Block) : b.encodeBody =
    { b with
      txData := zextLow b.chunkSize b.data
      check := divideLiteral (zextLow b.chunkSize b.data).toNat b.chunkSize b.actPoly
      fsm := .encoded } := by
  rw [← crc8_eq_divideLiteral b.actPoly (zextLow_toNat_lt b.chunkSize b.data), Block.encodeBody]

/-- Settles O21: the two refusals are those of `Block.ifSequenced`, and the body is `Block.encodeBody_eq`. -/
theorem encodeFollowsItsRule : Obligations.EncodeFollowsItsRule := by
  refine ⟨by decide, fun s => ⟨fun hv => ?_, fun hv hf => ?_, fun hv hf => ?_⟩⟩
  · exact exec_of_blockOf (blockOf_unconfigured hv (by simp))
  · exact exec_of_blockOf (Block.ifSequenced_out_of_order _ hv (Fsm.startsChunk_eq_false hf))
  · have hruns := Block.ifSequenced_runs Block.encodeBody hv (Fsm.startsChunk_eq_true hf)
    exact ⟨_, exec_of_blockOf (hruns.trans s.block.encodeBody_eq), zextLow_toNat _ _⟩

/-! ## The laws of crc8 (R85) and the codeword (R87) -/

/-- Settles O48: linearity, zero and leading zeros are laws of the loop; the two values are evaluated. -/
theorem lawsOfTheCheckCode : Obligations.LawsOfTheCheckCode := by
  refine ⟨fun a b L P => ?_, fun L P => crcLoop_zero _ L, fun v L L' P hv hL => crcLoop_leading_zeros _ hv hL,
    by decide, by decide +kernel⟩
  exact crcLoop_xor (P.setWidth 8) a b L 0 0

/-- A register that takes in its own bits, first bit first, is only shifted: no step XORs the polynomial. -/
theorem crcLoop_own_bits (p : BitVec 8) (v i : Nat) (r : BitVec 8)
    (h : ∀ j, j < i → r.getMsbD j = v.testBit (i - 1 - j)) : crcLoop p v i r = r <<< i := by
  induction i generalizing r with
  | zero => simp [crcLoop]
  | succ i ih =>
    have hmsb : r.msb = v.testBit i := h 0 (Nat.succ_pos i)
    have hstep : crcStep p r (v.testBit i) = r <<< 1 := by simp [crcStep, hmsb]
    have hrest : ∀ j, j < i → (r <<< 1).getMsbD j = v.testBit (i - 1 - j) := fun j hj => by
      rw [BitVec.getMsbD_shiftLeft, h (j + 1) (by omega)]
      congr 1
      omega
    rw [crcLoop, hstep, ih _ hrest, ← BitVec.shiftLeft_add, Nat.add_comm]

/-- A register that takes in itself ends empty. -/
theorem crcLoop_self (p r : BitVec 8) : crcLoop p r.toNat 8 r = 0 := by
  have hown : ∀ j, j < 8 → r.getMsbD j = r.toNat.testBit (8 - 1 - j) := fun j hj => by
    rw [BitVec.getMsbD, decide_eq_true hj, Bool.true_and, BitVec.testBit_toNat]
  rw [crcLoop_own_bits p r.toNat 8 r hown]
  exact BitVec.shiftLeft_eq_zero (Nat.le_refl 8)

/-- The codeword divides with an all-zero remainder, for every length and polynomial (R87). -/
theorem crc8_codeword (D c : Nat) (P : BitVec 9) : crc8 (D * 2 ^ 8 + (crc8 D c P).toNat) (c + 8) P = 0 := by
  rw [crc8, Nat.add_comm c, crcLoop_append _ _ _ _ _ _ (crc8 D c P).isLt]
  exact crcLoop_self _ (crc8 D c P)

/-- Settles O49: TX_FRAME is a codeword (`Block.RecordInv`), and a codeword leaves no remainder. -/
theorem codewordDividesWithZeroRemainder : Obligations.CodewordDividesWithZeroRemainder := by
  refine ⟨fun D c P _ _ _ => crc8_codeword D c P, fun b _ hrec hf => ?_⟩
  have hframe : b.fsm.hasFrame = true ∧ b.fsm.hasChunk = true := by
    simp only [List.mem_cons, List.not_mem_nil, or_false] at hf
    rcases hf with hf | hf | hf | hf <;> rw [hf] <;> decide
  rw [hrec.frame_of_chunk hframe.1, hrec.check_of_chunk hframe.2]
  exact crc8_codeword b.txData.toNat b.chunkSize b.actPoly

end Sys2Proof.Machine

namespace Sys2Proof.Machine

/-! ## The check code as a remainder over GF(2) (R84) -/

section Gf2

open Polynomial

/-- Bit i is the coefficient of x^i. -/
theorem coeff_bitsPoly (L v i : Nat) :
    (bitsPoly L v).coeff i = if i < L ∧ v.testBit i = true then 1 else 0 := by
  have hterm : ∀ j, (if v.testBit j = true then (X : (ZMod 2)[X]) ^ j else 0).coeff i =
      if i = j then (if v.testBit j = true then 1 else 0) else 0 := fun j => by
    by_cases hj : v.testBit j = true
    · simp only [if_pos hj, coeff_X_pow]
    · simp only [if_neg hj, coeff_zero, ite_self]
  rw [bitsPoly, finsetSum_coeff, Finset.sum_congr rfl fun j _ => hterm j, Finset.sum_ite_eq, ite_and]
  simp only [Finset.mem_range]

theorem degree_bitsPoly_lt (L v : Nat) : (bitsPoly L v).degree < L := by
  rw [degree_lt_iff_coeff_zero]
  intro i hi
  rw [coeff_bitsPoly, if_neg fun h => Nat.not_lt.2 hi h.1]

theorem bitsPoly_succ (L v : Nat) :
    bitsPoly (L + 1) v = bitsPoly L v + if v.testBit L = true then X ^ L else 0 :=
  Finset.sum_range_succ _ L

/-- A term that two bits put in cancels over GF(2). -/
theorem ite_xor_eq_add (p : (ZMod 2)[X]) (x y : Bool) :
    (if (x ^^ y) = true then p else 0) = (if x = true then p else 0) + if y = true then p else 0 := by
  cases x <;> cases y <;> simp [CharTwo.add_self_eq_zero]

/-- XOR is the addition of polynomials over GF(2). -/
theorem bitsPoly_xor (L u v : Nat) : bitsPoly L (u ^^^ v) = bitsPoly L u + bitsPoly L v := by
  rw [bitsPoly, bitsPoly, bitsPoly, ← Finset.sum_add_distrib]
  exact Finset.sum_congr rfl fun i _ => by rw [Nat.testBit_xor, ite_xor_eq_add]

/-- Only the low `L` bits of the value count. -/
theorem bitsPoly_mod_two_pow (L v : Nat) : bitsPoly L (v % 2 ^ L) = bitsPoly L v := by
  refine Finset.sum_congr rfl fun i hi => ?_
  rw [Nat.testBit_mod_two_pow, decide_eq_true (Finset.mem_range.1 hi), Bool.true_and]

/-- One more zero bit at the end multiplies by x. -/
theorem bitsPoly_two_mul (L v : Nat) : bitsPoly (L + 1) (2 * v) = bitsPoly L v * X := by
  ext i
  rw [coeff_bitsPoly]
  cases i with
  | zero => simp
  | succ i => simp [coeff_bitsPoly, Nat.testBit_succ]

/-- Shifting the register is multiplication by x; the bit shifted out is the coefficient of x^8. -/
theorem bitsPoly_mul_X (r : BitVec 8) :
    bitsPoly 8 r.toNat * X = bitsPoly 8 (r <<< 1).toNat + if r.msb = true then X ^ 8 else 0 := by
  have hlow : (r <<< 1).toNat = 2 * r.toNat % 2 ^ 8 := by
    rw [BitVec.toNat_shiftLeft, Nat.shiftLeft_eq, Nat.mul_comm, Nat.pow_one]
  have hhigh : (2 * r.toNat).testBit 8 = r.msb := by
    rw [Nat.testBit_succ, Nat.mul_div_cancel_left _ (by decide), BitVec.testBit_toNat, BitVec.msb_eq_getLsbD_last]
  rw [← bitsPoly_two_mul, bitsPoly_succ, hhigh, hlow, bitsPoly_mod_two_pow]

/-- With P[8] = 1 the polynomial is x^8 and what its low byte stands for. -/
theorem bitsPoly_of_first_bit {P : BitVec 9} (hP : P.getLsbD 8 = true) :
    bitsPoly 9 P.toNat = X ^ 8 + bitsPoly 8 (P.setWidth 8).toNat := by
  rw [bitsPoly_succ, BitVec.testBit_toNat, if_pos hP, BitVec.toNat_setWidth, bitsPoly_mod_two_pow, add_comm]

theorem monic_bitsPoly {P : BitVec 9} (hP : P.getLsbD 8 = true) : (bitsPoly 9 P.toNat).Monic := by
  rw [bitsPoly_of_first_bit hP]
  exact monic_X_pow_add (degree_bitsPoly_lt 8 _)

theorem degree_bitsPoly_eq {P : BitVec 9} (hP : P.getLsbD 8 = true) : (bitsPoly 9 P.toNat).degree = 8 := by
  rw [bitsPoly_of_first_bit hP, degree_add_eq_left_of_degree_lt, degree_X_pow]
  · rfl
  · rw [degree_X_pow]
    exact degree_bitsPoly_lt 8 _

/-- One step of the register over GF(2): it multiplies by x, takes in the bit at x^8, and subtracts P(x) when x^8 is
there. -/
theorem bitsPoly_crcStep {P : BitVec 9} (hP : P.getLsbD 8 = true) (r : BitVec 8) (bit : Bool) :
    bitsPoly 8 r.toNat * X + (if bit = true then X ^ 8 else 0) -
        (if (r.msb ^^ bit) = true then bitsPoly 9 P.toNat else 0) =
      bitsPoly 8 (crcStep (P.setWidth 8) r bit).toNat := by
  rw [bitsPoly_mul_X, add_assoc, ← ite_xor_eq_add, bitsPoly_of_first_bit hP, crcStep]
  split
  · rw [BitVec.toNat_xor, bitsPoly_xor, add_comm (X ^ 8), add_sub_add_right_eq_sub, CharTwo.sub_eq_add]
  · rw [add_zero, sub_zero]

/-- What the loop leaves is congruent modulo P(x) to the register it began with, moved up `i` places, and the bits it
took in, moved up 8 places. -/
theorem dvd_sub_bitsPoly_crcLoop {P : BitVec 9} (hP : P.getLsbD 8 = true) (v i : Nat) (r : BitVec 8) :
    bitsPoly 9 P.toNat ∣ bitsPoly 8 r.toNat * X ^ i + bitsPoly i v * X ^ 8 -
      bitsPoly 8 (crcLoop (P.setWidth 8) v i r).toNat := by
  induction i generalizing r with
  | zero =>
    have hnone : bitsPoly 0 v = 0 := rfl
    rw [crcLoop, hnone, pow_zero, mul_one, zero_mul, add_zero, sub_self]
    exact dvd_zero _
  | succ i ih =>
    have hP_dvd : bitsPoly 9 P.toNat ∣ (if (r.msb ^^ v.testBit i) = true then bitsPoly 9 P.toNat else 0) * X ^ i := by
      split
      · exact dvd_mul_right _ _
      · simp
    have hbit : (if v.testBit i = true then (X : (ZMod 2)[X]) ^ i else 0) * X ^ 8 =
        (if v.testBit i = true then X ^ 8 else 0) * X ^ i := by
      split <;> ring
    refine (dvd_add (ih (crcStep (P.setWidth 8) r (v.testBit i))) hP_dvd).trans (dvd_of_eq ?_)
    rw [crcLoop, bitsPoly_succ i v, ← bitsPoly_crcStep hP]
    linear_combination -hbit

/-- The check code is congruent to V(x)·x^8 modulo P(x). -/
theorem dvd_sub_bitsPoly_crc8 {P : BitVec 9} (hP : P.getLsbD 8 = true) (v L : Nat) :
    bitsPoly 9 P.toNat ∣ bitsPoly L v * X ^ 8 - bitsPoly 8 (crc8 v L P).toNat := by
  have hzero : bitsPoly 8 (0 : BitVec 8).toNat = 0 := Finset.sum_eq_zero fun i _ => by simp
  have h := dvd_sub_bitsPoly_crcLoop hP v L 0
  rwa [hzero, zero_mul, zero_add] at h

/-- The check code is the remainder of V(x)·x^8 modulo P(x): congruent to it, and of a smaller degree than P(x). -/
theorem bitsPoly_crc8 {P : BitVec 9} (hP : P.getLsbD 8 = true) (v L : Nat) :
    bitsPoly 8 (crc8 v L P).toNat = (bitsPoly L v * X ^ 8) %ₘ bitsPoly 9 P.toNat := by
  have hmonic := monic_bitsPoly hP
  have hdegree : (bitsPoly 8 (crc8 v L P).toNat).degree < (bitsPoly 9 P.toNat).degree := by
    rw [degree_bitsPoly_eq hP]
    exact degree_bitsPoly_lt 8 _
  calc bitsPoly 8 (crc8 v L P).toNat
      = bitsPoly 8 (crc8 v L P).toNat %ₘ bitsPoly 9 P.toNat := ((modByMonic_eq_self_iff hmonic).2 hdegree).symm
    _ = (bitsPoly L v * X ^ 8) %ₘ bitsPoly 9 P.toNat :=
        (modByMonic_eq_of_dvd_sub hmonic (dvd_sub_bitsPoly_crc8 hP v L)).symm

end Gf2

/-- Settles O47, for every value, by the remainder register read as a polynomial (`bitsPoly_crc8`). -/
theorem checkCodeIsThePolynomialRemainder : Obligations.CheckCodeIsThePolynomialRemainder :=
  fun v L _ _ _ hP => bitsPoly_crc8 hP v L

end Sys2Proof.Machine

namespace Sys2Proof.Machine

/-! ## PRBS_STEP as an invertible linear map (43_channel.md R91) -/

theorem xor_shiftLeft_linear {w : Nat} (k : Nat) (x y : BitVec w) :
    (x ^^^ y) ^^^ (x ^^^ y) <<< k = (x ^^^ x <<< k) ^^^ (y ^^^ y <<< k) := by
  rw [BitVec.shiftLeft_xor_distrib]
  ac_rfl

theorem xor_ushiftRight_linear {w : Nat} (k : Nat) (x y : BitVec w) :
    (x ^^^ y) ^^^ (x ^^^ y) >>> k = (x ^^^ x >>> k) ^^^ (y ^^^ y >>> k) := by
  rw [BitVec.ushiftRight_xor_distrib]
  ac_rfl

/-- Each of the three shifts of the xorshift is linear, and so is their composition. -/
theorem xorshiftStep_xor (a b : Word) : xorshiftStep (a ^^^ b) = xorshiftStep a ^^^ xorshiftStep b := by
  simp only [xorshiftStep, xor_shiftLeft_linear, xor_ushiftRight_linear]

/-- A linear map whose kernel is 0 is one to one. -/
theorem xorshiftStep_injective : Function.Injective xorshiftStep := by
  intro a b h
  by_contra hne
  have hkernel : xorshiftStep (a ^^^ b) = 0#32 := by rw [xorshiftStep_xor, h, BitVec.xor_self]
  exact xorshiftStep_ne_zero (fun h0 => hne (BitVec.xor_eq_zero_iff.1 h0)) hkernel

/-- A one-to-one map of the finitely many words is onto. -/
theorem xorshiftStep_bijective : Function.Bijective xorshiftStep :=
  Finite.injective_iff_bijective.1 xorshiftStep_injective

/-- Settles O54: linearity and the kernel give the bijection; the first six states are evaluated; the last two clauses
are `execWith_xorshift` and `stepWith_xorshift`. -/
theorem prbsStepIsTheXorshift : Obligations.PrbsStepIsTheXorshift :=
  ⟨fun s => ⟨_, _, rfl, rfl, rfl⟩, xorshiftStep_bijective, xorshiftStep_xor, by decide,
    fun s k hs => xorshiftStep_iterate_ne_zero k hs, by decide, by decide, by decide, by decide, by decide, by decide,
    congrFun₂ execWith_xorshift, congrFun stepWith_xorshift⟩

/-! ## CORRUPT (R95, R96) -/

/-- Frame bit `j`, which is register bit n − 1 − j, is decided by draw `j` alone (R94 to R96). -/
theorem corruptFrame_bit (prbsStep : Word → Word) (T : BitVec 17) {n : Nat} (frame : BitVec 72) (p : Word)
    (hn : n ≤ 72) {j : Nat} (hj : j < n) :
    (corruptFrame prbsStep T n frame p).1.getLsbD (n - 1 - j) =
      (frame.getLsbD (n - 1 - j) ^^ decide ((prbsStep^[j + 1] p).toNat / 2 ^ 16 < T.toNat)) := by
  have hlt : n - 1 - j < n := by omega
  have hdraw : n - (n - 1 - j) = j + 1 := by omega
  rw [corruptFrame, corruptLoop_bit _ _ _ _ _ hlt hn, zextLow_getLsbD, decide_eq_true hlt, Bool.true_and, hdraw, flips,
    drawOf_toNat]

theorem Fsm.startsCorrupt_eq_true_iff (f : Fsm) : f.startsCorrupt = true ↔ f = .framed := by
  cases f <;> decide

theorem Block.corruptCommand_runs (prbsStep : Word → Word) {b : Block} (hv : b.cfgValid = true) (hf : b.fsm = .framed) :
    b.corruptCommand prbsStep = b.corruptBody prbsStep :=
  Block.ifSequenced_runs _ hv ((Fsm.startsCorrupt_eq_true_iff _).2 hf)

theorem Block.corruptCommand_out_of_order (prbsStep : Word → Word) {b : Block} (hv : b.cfgValid = true)
    (hf : b.fsm ≠ .framed) : b.corruptCommand prbsStep = b.raise .cmdSequence :=
  Block.ifSequenced_out_of_order _ hv (Bool.eq_false_iff.2 (mt (Fsm.startsCorrupt_eq_true_iff _).1 hf))

/-- The generator CORRUPT leaves, as an iterate of PRBS_STEP. -/
theorem Block.corruptBody_eq (prbsStep : Word → Word) (b : Block) : b.corruptBody prbsStep =
    { b with
      rxFrame := (corruptFrame prbsStep b.actPThresh b.frameSize b.txFrame b.prbsState).1
      prbsState := prbsStep^[b.frameSize] b.prbsState
      fsm := .channeled } := by
  rw [Block.corruptBody, corruptFrame_state]

/-- Settles O55: `corruptFrame_state` counts the draws, and `corruptFrame_bit` gives each its frame bit. -/
theorem oneDrawPerFrameBitInOrder : Obligations.OneDrawPerFrameBitInOrder := by
  intro prbsStep s hv hf hc
  have hn : s.block.frameSize ≤ 72 := Nat.add_le_add_right hc 8
  refine ⟨{ s with block := s.block.corruptBody prbsStep }, ?_, corruptFrame_state _ _ _ _ _,
    fun j hj => corruptFrame_bit _ _ _ _ hn hj⟩
  rw [execWith_corrupt, State.onBlock, Block.corruptCommand_runs prbsStep hv hf]

/-- Settles O23: the two refusals are those of `Block.ifSequenced`, the whole effect is `Block.corruptBody_eq`, and the
received frame is given by its width and its bits. -/
theorem corruptFollowsItsRule : Obligations.CorruptFollowsItsRule := by
  refine ⟨by decide, fun s => ⟨fun hv => ?_, fun hv hf => ?_, fun hv hf hc => ?_⟩⟩
  · exact exec_of_blockOf (blockOf_unconfigured hv (by simp))
  · exact exec_of_blockOf (Block.corruptCommand_out_of_order xorshiftStep hv hf)
  · have hn : s.block.frameSize ≤ 72 := Nat.add_le_add_right hc 8
    have hruns := Block.corruptCommand_runs xorshiftStep hv hf
    exact ⟨_, exec_of_blockOf (hruns.trans (Block.corruptBody_eq xorshiftStep s.block)), corruptFrame_toNat_lt _ _ _ _ _,
      fun j hj => corruptFrame_bit _ _ _ _ hn hj⟩

end Sys2Proof.Machine

namespace Sys2Proof.Machine

/-! ## The "from" sets of the pipeline commands (44_pipeline.md R99, R100) -/

theorem Fsm.startsChunk_eq_true_iff (f : Fsm) : f.startsChunk = true ↔ f ∈ [Fsm.idle, .matched, .mismatched] := by
  cases f <;> decide

theorem Fsm.startsFrame_eq_true_iff (f : Fsm) : f.startsFrame = true ↔ f = .encoded := by
  cases f <;> decide

theorem Fsm.startsVerify_eq_true_iff (f : Fsm) : f.startsVerify = true ↔ f = .channeled := by
  cases f <;> decide

/-- Outside the "from" set a pipeline command is refused, and the CFG_VALID check comes first (R100, R119). -/
theorem Block.ifSequenced_refused {allowed : Fsm → Bool} {b : Block} (body : Block → Block) {inSet : Prop}
    (hset : allowed b.fsm = true ↔ inSet) (hout : ¬ inSet) : b.ifSequenced allowed body =
      b.raise (if b.cfgValid = true then .cmdSequence else .cmdNotConfigured) := by
  rcases Block.ifSequenced_cases allowed body b with ⟨-, ha, -⟩ | ⟨hv, -, heq⟩ | ⟨hv, heq⟩
  · exact absurd (hset.1 ha) hout
  · rw [heq, hv, if_pos rfl]
  · rw [heq, hv, if_neg Bool.false_ne_true]

/-! ## FRAME (R101) -/

theorem Block.frameCommand_runs {b : Block} (hv : b.cfgValid = true) (hf : b.fsm = .encoded) :
    b.frameCommand = b.frameBody :=
  Block.ifSequenced_runs _ hv ((Fsm.startsFrame_eq_true_iff _).2 hf)

theorem Block.frameCommand_out_of_order {b : Block} (hv : b.cfgValid = true) (hf : b.fsm ≠ .encoded) :
    b.frameCommand = b.raise .cmdSequence :=
  Block.ifSequenced_out_of_order _ hv (Bool.eq_false_iff.2 (mt (Fsm.startsFrame_eq_true_iff _).1 hf))

/-- Settles O22: the two refusals are those of `Block.ifSequenced`, and `frameOf_toNat` is the value of the frame. -/
theorem frameFollowsItsRule : Obligations.FrameFollowsItsRule := by
  refine ⟨by decide, fun s => ⟨fun hv => ?_, fun hv hf => ?_, fun hv hf => ?_⟩⟩
  · exact exec_of_blockOf (blockOf_unconfigured hv (by simp))
  · exact exec_of_blockOf (Block.frameCommand_out_of_order hv hf)
  · exact ⟨s.block.frameBody.txFrame, exec_of_blockOf (Block.frameCommand_runs hv hf), frameOf_toNat _ _ _⟩

/-! ## VERIFY (R102) -/

theorem Block.verifyCommand_runs {b : Block} (hv : b.cfgValid = true) (hf : b.fsm = .channeled) :
    b.verifyCommand = b.verifyBody :=
  Block.ifSequenced_runs _ hv ((Fsm.startsVerify_eq_true_iff _).2 hf)

theorem Block.verifyCommand_out_of_order {b : Block} (hv : b.cfgValid = true) (hf : b.fsm ≠ .channeled) :
    b.verifyCommand = b.raise .cmdSequence :=
  Block.ifSequenced_out_of_order _ hv (Bool.eq_false_iff.2 (mt (Fsm.startsVerify_eq_true_iff _).1 hf))

/-- The comparison as one update of the state and the two counters. -/
theorem Block.judgeBody_eq (b : Block) : b.judgeBody =
    { b with
      fsm := if b.recomp = b.rxCheck then .matched else .mismatched
      matchCount := if b.recomp = b.rxCheck then b.matchCount + 1 else b.matchCount
      mismatchCount := if b.recomp = b.rxCheck then b.mismatchCount else b.mismatchCount + 1 } := by
  unfold Block.judgeBody
  by_cases h : b.recomp = b.rxCheck
  · simp only [if_pos h]
  · simp only [if_neg h]

/-- The recomputed check code in the source's own form. -/
theorem Block.recordBody_eq (b : Block) : b.recordBody =
    { b with
      rxData := dataPart b.chunkSize b.rxFrame
      rxCheck := checkPart b.rxFrame
      recomp := divideLiteral (dataPart b.chunkSize b.rxFrame).toNat b.chunkSize b.actPoly
      recIndex := b.burstCount
      burstCount := b.burstCount + 1 } := by
  rw [← crc8_eq_divideLiteral b.actPoly (dataPart_toNat_lt b.chunkSize b.rxFrame), Block.recordBody]

/-- Settles O24: the two refusals are those of `Block.ifSequenced`, the record is `Block.recordBody_eq` and its outcome
`Block.judgeBody_eq`. -/
theorem verifyFollowsItsRule : Obligations.VerifyFollowsItsRule := by
  refine ⟨by decide, fun s => ⟨fun hv => ?_, fun hv hf => ?_, fun hv hf => ?_⟩⟩
  · exact exec_of_blockOf (blockOf_unconfigured hv (by simp))
  · exact exec_of_blockOf (Block.verifyCommand_out_of_order hv hf)
  · refine ⟨_, _, _, dataPart_toNat _ _, checkPart_toNat _, rfl, exec_of_blockOf ?_⟩
    rw [blockOf, Block.verifyCommand_runs hv hf, Block.verifyBody, Block.judgeBody_eq, Block.recordBody_eq]
    rfl

/-! ## CMD_SEQUENCE (R100) -/

/-- CONFIGURE has causes of its own (10_state.md R26). -/
theorem Block.configureCheck_cause {b : Block} {cause : ErrCause} (h : b.configureCheck = some cause) :
    cause ∈ [.cfgChunkZero, .cfgChunkTooLarge, .cfgPolyTooLong, .cfgPolyMsbZero, .cfgProbRange] := by
  unfold Block.configureCheck at h
  split_ifs at h <;> cases h <;> simp

theorem Block.configureCommand_ne_cmdSequence (b : Block) : b.configureCommand.errCause ≠ .cmdSequence := by
  rcases Block.configureCommand_cases b with ⟨-, heq⟩ | ⟨cause, hcheck, heq⟩
  · simp [heq]
  · rw [heq, Block.failConfigure_errCause]
    rintro rfl
    simpa using Block.configureCheck_cause hcheck

theorem Block.padCommand_cmdSequence {n : Nat} {b : Block} (h : (b.padCommand n).errCause = .cmdSequence) :
    b.errCause = .cmdSequence := by
  rcases Block.padCommand_cases n b with ⟨-, -, -, heq⟩ | ⟨-, -, heq⟩ | ⟨-, heq⟩
  · simpa [heq] using h
  · simp [heq] at h
  · simp [heq] at h

/-- Settles O28: each row is `Block.ifSequenced_refused` at the "from" set of its command, and the other commands have
other causes. -/
theorem outOfSequenceCommandsAreRefused : Obligations.OutOfSequenceCommandsAreRefused := by
  refine ⟨fun s i allowed hrow hf => ?_, fun s t i hi h hcause => ?_⟩
  · simp only [List.mem_cons, Prod.mk.injEq, List.not_mem_nil, or_false] at hrow
    rcases hrow with ⟨rfl, rfl⟩ | ⟨rfl, rfl⟩ | ⟨rfl, rfl⟩ | ⟨rfl, rfl⟩ | ⟨rfl, rfl⟩
    · exact exec_of_blockOf (Block.ifSequenced_refused _ (Fsm.startsChunk_eq_true_iff _) hf)
    · exact exec_of_blockOf (Block.ifSequenced_refused _ (Fsm.startsFrame_eq_true_iff _) (mt List.mem_singleton.2 hf))
    · exact exec_of_blockOf (Block.ifSequenced_refused _ (Fsm.startsCorrupt_eq_true_iff _) (mt List.mem_singleton.2 hf))
    · exact exec_of_blockOf (Block.ifSequenced_refused _ (Fsm.startsVerify_eq_true_iff _) (mt List.mem_singleton.2 hf))
    · exact exec_of_blockOf (Block.ifSequenced_refused _ (Fsm.startsChunk_eq_true_iff _) hf)
  · obtain rfl := exec_next h
    rcases hi with rfl | rfl | ⟨n, rfl⟩ | rfl | rfl
    · exact hcause
    · exact absurd hcause (Block.configureCommand_ne_cmdSequence _)
    · exact Block.padCommand_cmdSequence hcause
    · cases hcause
    · cases hcause

/-! ## The transition table (R99) -/

/-- The state the comparison of RECOMP and RX_CHECK stands for (R102). -/
def Block.outcome (b : Block) : Fsm := if b.recomp = b.rxCheck then .matched else .mismatched

theorem Block.verifyBody_fsm (b : Block) : b.verifyBody.fsm = b.verifyBody.outcome := by
  rw [Block.verifyBody, Block.outcome, Block.judgeBody_fsm, Block.judgeBody_recomp, Block.judgeBody_rxCheck]

/-- RUN_CHUNK ends with VERIFY (R104). -/
theorem Block.runChunkBody_fsm (prbsStep : Word → Word) (b : Block) :
    (b.runChunkBody prbsStep).fsm = (b.runChunkBody prbsStep).outcome :=
  Block.verifyBody_fsm _

theorem Block.padCommand_fsm (n : Nat) (b : Block) : (b.padCommand n).fsm = b.fsm := by
  rcases Block.padCommand_cases n b with ⟨-, -, -, heq⟩ | ⟨-, -, heq⟩ | ⟨-, heq⟩
  · rw [heq, Block.padBody_fsm]
  · rw [heq, Block.raise_fsm]
  · rw [heq, Block.raise_fsm]

theorem Block.configureCommand_fsm (b : Block) : b.configureCommand.fsm = .idle := by
  rcases Block.configureCommand_cases b with ⟨-, heq⟩ | ⟨cause, -, heq⟩
  · rw [heq, Block.startRun_fsm]
  · rw [heq, Block.failConfigure_fsm]

theorem Block.writeReg_fsm (r : RegName) (v : Word) (b : Block) : (b.writeReg r v).fsm = b.fsm := by
  cases r <;> rfl

/-- A pipeline command reaches its target state from its "from" set, and a refused one leaves FSM. `target` reads the
block after the command, where VERIFY's and RUN_CHUNK's outcome stands. -/
theorem Block.ifSequenced_fsm {allowed : Fsm → Bool} {body : Block → Block} {b : Block} {target : Block → Fsm}
    (hbody : (body b).fsm = target (body b)) {inSet : Prop} [Decidable inSet] (hset : allowed b.fsm = true ↔ inSet) :
    (b.ifSequenced allowed body).fsm =
      if b.cfgValid = true ∧ inSet then target (b.ifSequenced allowed body) else b.fsm := by
  rcases Block.ifSequenced_cases allowed body b with ⟨hv, ha, heq⟩ | ⟨-, ha, heq⟩ | ⟨hv, heq⟩
  · rw [heq, if_pos ⟨hv, hset.1 ha⟩, hbody]
  · have hout : ¬ inSet := fun hin => by simp [hset.2 hin] at ha
    rw [heq, if_neg fun h => hout h.2, Block.raise_fsm]
  · rw [heq, if_neg fun h => by simp [hv] at h, Block.raise_fsm]

/-- A step changes FSM only by a hardware reset or a decoded command. -/
theorem step_fsm_changed {s t : State} (h : step s = .next t) (hne : t.block.fsm ≠ s.block.fsm) :
    ∃ rest, (s.pending = .hardwareReset :: rest ∧ t.block.fsm = .idle) ∨
      ∃ w i, s.pending = cmdWrite w :: rest ∧ decode w = .ok i := by
  rcases step_cases h with ⟨-, rfl⟩ | ⟨rest, ⟨r, -, rfl⟩ | ⟨r, v, -, -, rfl⟩ | ⟨r, v, -, -, rfl⟩ | ⟨w, i, hp, hd, -⟩ |
    ⟨w, e, -, -, rfl⟩ | ⟨hp, rfl⟩⟩
  · exact absurd rfl hne
  · exact absurd rfl hne
  · exact absurd (Block.writeReg_fsm r v s.block) hne
  · exact absurd rfl hne
  · exact ⟨rest, .inr ⟨w, i, hp, hd⟩⟩
  · exact absurd (Block.raise_fsm _ _) hne
  · exact ⟨rest, .inl ⟨hp, rfl⟩⟩

/-- Settles O31: `Block.ifSequenced_fsm` for the five pipeline commands, one equation each for the others, and
`step_fsm_changed` for the steps. -/
theorem fsmMovesByTheTransitionTable : Obligations.FsmMovesByTheTransitionTable := by
  refine ⟨fun i s t h => ?_, fun s t => step_fsm_changed⟩
  obtain rfl := exec_next h
  cases i with
  | nop | clearErr | softReset => rfl
  | configure => exact Block.configureCommand_fsm _
  | pad n => exact Block.padCommand_fsm n _
  | encode => exact Block.ifSequenced_fsm (target := fun _ => .encoded) rfl (Fsm.startsChunk_eq_true_iff _)
  | frame => exact Block.ifSequenced_fsm (target := fun _ => .framed) rfl (Fsm.startsFrame_eq_true_iff _)
  | corrupt => exact Block.ifSequenced_fsm (target := fun _ => .channeled) rfl (Fsm.startsCorrupt_eq_true_iff _)
  | verify => exact Block.ifSequenced_fsm (Block.verifyBody_fsm _) (Fsm.startsVerify_eq_true_iff _)
  | runChunk => exact Block.ifSequenced_fsm (Block.runChunkBody_fsm xorshiftStep _) (Fsm.startsChunk_eq_true_iff _)

end Sys2Proof.Machine

namespace Sys2Proof.Machine

/-! ## VERIFY as division of the received frame (R103) -/

section Gf2

open Polynomial

/-- A value of L + 8 bits is its first L bits, moved up 8 places, and its last 8. -/
theorem bitsPoly_split (L v : Nat) : bitsPoly (L + 8) v = bitsPoly L (v / 2 ^ 8) * X ^ 8 + bitsPoly 8 v := by
  have hterm : ∀ i, (if v.testBit (8 + i) = true then (X : (ZMod 2)[X]) ^ (8 + i) else 0) =
      (if (v / 2 ^ 8).testBit i = true then X ^ i else 0) * X ^ 8 := fun i => by
    rw [Nat.testBit_div_two_pow, ite_mul, zero_mul, ← pow_add, add_comm 8 i]
  rw [Nat.add_comm L, bitsPoly, Finset.sum_range_add, Finset.sum_congr rfl fun i _ => hterm i, ← Finset.sum_mul,
    add_comm]
  rfl

/-- A received frame as the polynomials of its data part and its check part. -/
theorem bitsPoly_frame (c : Nat) (frame : BitVec 72) : bitsPoly (c + 8) frame.toNat =
    bitsPoly c (dataPart c frame).toNat * X ^ 8 + bitsPoly 8 (checkPart frame).toNat := by
  rw [bitsPoly_split, dataPart_toNat, bitsPoly_mod_two_pow, checkPart_toNat, bitsPoly_mod_two_pow]

/-- A register and its polynomial are 0 together. -/
theorem bitsPoly_toNat_eq_zero_iff {w : Nat} (r : BitVec w) : bitsPoly w r.toNat = 0 ↔ r = 0 := by
  constructor
  · intro h
    refine BitVec.eq_of_getLsbD_eq fun i hi => ?_
    have hcoeff := congrArg (coeff · i) h
    simpa [coeff_bitsPoly, hi, BitVec.testBit_toNat] using hcoeff
  · rintro rfl
    exact Finset.sum_eq_zero fun i _ => by simp

/-- P(x) has degree 8, so the only byte it divides is 0. -/
theorem dvd_bitsPoly_byte_iff {P : BitVec 9} (hP : P.getLsbD 8 = true) (r : BitVec 8) :
    bitsPoly 9 P.toNat ∣ bitsPoly 8 r.toNat ↔ r = 0 := by
  rw [← bitsPoly_toNat_eq_zero_iff]
  constructor
  · intro h
    refine eq_zero_of_dvd_of_degree_lt h ?_
    rw [degree_bitsPoly_eq hP]
    exact degree_bitsPoly_lt 8 _
  · intro h
    exact h ▸ dvd_zero _

/-- Modulo P(x) a received frame is the recomputed check code and the received one together. -/
theorem dvd_bitsPoly_frame_iff {P : BitVec 9} (hP : P.getLsbD 8 = true) (c : Nat) (frame : BitVec 72) :
    bitsPoly 9 P.toNat ∣ bitsPoly (c + 8) frame.toNat ↔ crc8 (dataPart c frame).toNat c P = checkPart frame := by
  have hcongr : bitsPoly 9 P.toNat ∣ bitsPoly (c + 8) frame.toNat -
      bitsPoly 8 (crc8 (dataPart c frame).toNat c P ^^^ checkPart frame).toNat := by
    rw [bitsPoly_frame, BitVec.toNat_xor, bitsPoly_xor, add_sub_add_right_eq_sub]
    exact dvd_sub_bitsPoly_crc8 hP _ c
  rw [dvd_iff_dvd_of_dvd_sub hcongr, dvd_bitsPoly_byte_iff hP]
  exact BitVec.xor_eq_zero_iff

/-- With P[0] = 1, x does not divide P(x). -/
theorem isCoprime_bitsPoly_X {P : BitVec 9} (h0 : P.getLsbD 0 = true) : IsCoprime (bitsPoly 9 P.toNat) X := by
  refine (irreducible_X.coprime_iff_not_dvd.2 ?_).symm
  rw [X_dvd_iff, coeff_bitsPoly, BitVec.testBit_toNat, if_pos ⟨by decide, h0⟩]
  exact one_ne_zero

/-- With P[0] = 1 the check code is 0 exactly for the multiples of P(x): the factor x^8 of R84 does not count. -/
theorem crc8_eq_zero_iff {P : BitVec 9} (hP : P.getLsbD 8 = true) (h0 : P.getLsbD 0 = true) (v L : Nat) :
    crc8 v L P = 0 ↔ bitsPoly 9 P.toNat ∣ bitsPoly L v := by
  rw [← bitsPoly_toNat_eq_zero_iff, bitsPoly_crc8 hP, modByMonic_eq_zero_iff_dvd (monic_bitsPoly hP)]
  exact ⟨(isCoprime_bitsPoly_X h0).pow_right.dvd_of_dvd_mul_right, (dvd_mul_of_dvd_left · _)⟩

end Gf2

/-- VERIFY reaches MATCH exactly when the check code it recomputes is the received one. -/
theorem Block.verifyBody_matched_iff (b : Block) : b.verifyBody.fsm = .matched ↔
    crc8 (dataPart b.chunkSize b.rxFrame).toNat b.chunkSize b.actPoly = checkPart b.rxFrame := by
  rw [Block.verifyBody, Block.judgeBody_fsm, Block.recordBody_recomp, Block.recordBody_rxCheck]
  simp

/-- Settles O50: the comparison VERIFY makes is divisibility of the frame (`dvd_bitsPoly_frame_iff`), and for P[0] = 1
divisibility is check code 0 (`crc8_eq_zero_iff`). -/
theorem verifyIsDivisionOfTheReceivedFrame : Obligations.VerifyIsDivisionOfTheReceivedFrame := by
  intro s hv hf hlegal
  have hP : s.block.actPoly.getLsbD 8 = true := by
    simpa only [BitVec.msb_eq_getLsbD_last] using hlegal.poly_first_bit
  have hmatch := s.block.verifyBody_matched_iff.trans (dvd_bitsPoly_frame_iff hP s.block.chunkSize _).symm
  exact ⟨_, exec_of_blockOf (Block.verifyCommand_runs hv hf), hmatch,
    fun h0 => hmatch.trans (crc8_eq_zero_iff hP h0 _ _).symm⟩

end Sys2Proof.Machine

namespace Sys2Proof.Machine

/-! ## CONFIGURE (45_control.md R110, R111, R120) -/

theorem Block.configureCheck_chunk_zero {b : Block} (h : b.chunkBits.toNat = 0) :
    b.configureCheck = some .cfgChunkZero :=
  if_pos h

theorem Block.configureCheck_chunk_too_large {b : Block} (h : 64 < b.chunkBits.toNat) :
    b.configureCheck = some .cfgChunkTooLarge :=
  (if_neg (by omega)).trans (if_pos h)

/-- The check `9 >= c + 8` rejects exactly one chunk size that the range checks let through (90_conflicts.md C1). -/
theorem Block.configureCheck_chunk_one {b : Block} (h : b.chunkBits.toNat = 1) :
    b.configureCheck = some .cfgPolyTooLong := by
  simp [Block.configureCheck, h]

/-- A legal chunk size passes the first three checks, and the polynomial and the threshold are checked in this order. -/
theorem Block.configureCheck_chunk_legal {b : Block} (hmin : 2 ≤ b.chunkBits.toNat) (hmax : b.chunkBits.toNat ≤ 64) :
    b.configureCheck = if b.poly.getLsbD 8 = false then some .cfgPolyMsbZero
      else if 65536 < b.pThresh.toNat then some .cfgProbRange else none := by
  have hzero : b.chunkBits.toNat ≠ 0 := by omega
  have hlarge : ¬ 64 < b.chunkBits.toNat := by omega
  have hlong : ¬ b.chunkBits.toNat + 8 ≤ 9 := by omega
  simp [Block.configureCheck, BitVec.msb_eq_getLsbD_last, hzero, hlarge, hlong]

theorem Block.configureCommand_succeeds {b : Block} (h : b.configureCheck = none) :
    b.configureCommand = b.startRun := by
  rw [Block.configureCommand, h]

theorem Block.configureCommand_fails {b : Block} {cause : ErrCause} (h : b.configureCheck = some cause) :
    b.configureCommand = b.failConfigure cause := by
  rw [Block.configureCommand, h]

/-- Settles O19: the checks' outcome in each case is one of the `Block.configureCheck_chunk_…` lemmas, and it decides
between `startRun` and `failConfigure`. -/
theorem configureFollowsItsRule : Obligations.ConfigureFollowsItsRule := by
  refine ⟨by decide, fun s => ⟨fun ⟨hmin, hmax, hpoly, hthresh⟩ => ?_, fun cause hcase => ?_⟩⟩
  · have hcheck : s.block.configureCheck = none := by
      rw [Block.configureCheck_chunk_legal hmin hmax, if_neg (by simp [hpoly]), if_neg (by omega)]
    exact exec_of_blockOf (Block.configureCommand_succeeds hcheck)
  · have hcheck : s.block.configureCheck = some cause := by
      rcases hcase with ⟨hzero, rfl⟩ | ⟨hlarge, rfl⟩ | ⟨hone, rfl⟩ | ⟨hmin, hmax, hpoly, rfl⟩ |
        ⟨hmin, hmax, hpoly, hthresh, rfl⟩
      · exact Block.configureCheck_chunk_zero hzero
      · exact Block.configureCheck_chunk_too_large hlarge
      · exact Block.configureCheck_chunk_one hone
      · rw [Block.configureCheck_chunk_legal hmin hmax, if_pos hpoly]
      · rw [Block.configureCheck_chunk_legal hmin hmax, if_neg (by simp [hpoly]), if_pos hthresh]
    exact exec_of_blockOf (Block.configureCommand_fails hcheck)

/-! ## NOP, CLEAR_ERR and SOFT_RESET (45_control.md R109, R112, R113) -/

/-- The opcode of a command other than PAD has one legal word: every other word with that opcode is rejected (R73). -/
theorem decode_other_word_of_opcode {i : Instr} {w : Word} (hpad : opcodeOf i ≠ 0x2)
    (hop : w.toNat % 16 = (opcodeOf i).toNat) (hne : w ≠ encode i) : ∃ r, decode w = .error r := by
  cases hd : decode w with
  | error r => exact ⟨r, rfl⟩
  | ok j =>
    obtain ⟨hwf, rfl⟩ := decode_eq_ok_iff.1 hd
    obtain ⟨hopj, -, -⟩ := Laws.EncodingFields.of_append j hwf
    have hji : opcodeOf j = opcodeOf i :=
      BitVec.eq_of_toNat_eq (by rw [← hopj, opField_toNat]; exact hop)
    have hword : encode j = encode i := by
      rw [encode, encode, lengthOf_eq_zero hpad, lengthOf_eq_zero (hji ▸ hpad), hji]
    exact absurd hword hne

/-- Settles O18: NOP acts on the block as the identity, and 0 is the one legal word with OP = 0
(`decode_other_word_of_opcode`). -/
theorem nopFollowsItsRule : Obligations.NopFollowsItsRule :=
  ⟨by decide, fun s => exec_eq_onBlock .nop s,
    fun _ hop hne => decode_other_word_of_opcode (i := .nop) (by decide) hop hne⟩

theorem Block.clearError_of_no_error {b : Block} (herr : b.err = false) (hcause : b.errCause = .none) :
    b.clearError = b := by
  rw [Block.clearError, ← herr, ← hcause]

/-- Settles O26: CLEAR_ERR acts on the block as `Block.clearError`, which leaves a block without an error. -/
theorem clearErrFollowsItsRule : Obligations.ClearErrFollowsItsRule :=
  ⟨by decide, fun s => ⟨exec_eq_onBlock .clearErr s,
    fun herr hcause => exec_of_blockOf (Block.clearError_of_no_error herr hcause)⟩⟩

theorem step_hardwareReset {s : State} {rest : List HostEvent} (h : s.pending = .hardwareReset :: rest) :
    step s = exec .softReset { s with pending := rest } := by
  rw [step_cons h, exec_eq_onBlock]
  rfl

/-- Settles O27: SOFT_RESET gives the block `Block.reset`, so does the hardware reset (`step_hardwareReset`), and
0x0000000F is the one legal word with OP = 0xF (`decode_other_word_of_opcode`). -/
theorem softResetFollowsItsRule : Obligations.SoftResetFollowsItsRule :=
  ⟨by decide, fun s => exec_eq_onBlock .softReset s, fun _ _ => step_hardwareReset,
    fun _ hop hne => decode_other_word_of_opcode (i := .softReset) (by decide) hop hne⟩

end Sys2Proof.Machine

namespace Sys2Proof.Machine

/-! ## Refusals are precise (60_exceptions.md R118) -/

/-- R118 for one command: if it records an error where the error fields of `b` were clear, then on `b` itself it is the
refusal with that cause, one of the three that a decoded command can record. -/
def Block.RefusalPrecise (command : Block → Block) (b : Block) : Prop :=
  (command b.clearError).err = true →
    command b = b.raise (command b.clearError).errCause ∧
      ((command b.clearError).errCause = .cmdNotConfigured ∨ (command b.clearError).errCause = .cmdBadLength ∨
        (command b.clearError).errCause = .cmdSequence)

/-- A command that leaves ERR clear is not refused. -/
theorem Block.RefusalPrecise.of_no_error {command : Block → Block} {b : Block}
    (h : (command b.clearError).err = false) : Block.RefusalPrecise command b := fun herr => by
  rw [h] at herr
  cases herr

theorem Block.RefusalPrecise.of_raise {command : Block → Block} {b : Block} {cause : ErrCause}
    (hclear : command b.clearError = b.clearError.raise cause) (h : command b = b.raise cause)
    (hcause : cause = .cmdNotConfigured ∨ cause = .cmdBadLength ∨ cause = .cmdSequence) :
    Block.RefusalPrecise command b := fun _ => by
  rw [hclear, Block.raise_errCause]
  exact ⟨h, hcause⟩

/-- The checks read CFG_VALID and FSM, which clearing the error fields leaves, so they fail alike on both blocks. -/
theorem Block.ifSequenced_refusalPrecise {allowed : Fsm → Bool} {body : Block → Block} {b : Block}
    (hbody : (body b.clearError).err = b.clearError.err) : Block.RefusalPrecise (Block.ifSequenced allowed body) b := by
  rcases Block.ifSequenced_cases allowed body b.clearError with ⟨-, -, heq⟩ | ⟨hv, ha, heq⟩ | ⟨hv, heq⟩
  · exact .of_no_error (by rw [heq, hbody, Block.clearError_err])
  · exact .of_raise heq (Block.ifSequenced_out_of_order body hv ha) (by simp)
  · exact .of_raise heq (Block.ifSequenced_unconfigured allowed body hv) (by simp)

theorem Block.padCommand_refusalPrecise (n : Nat) (b : Block) : Block.RefusalPrecise (Block.padCommand n) b := by
  rcases Block.padCommand_cases n b.clearError with ⟨-, -, -, heq⟩ | ⟨hv, hn, heq⟩ | ⟨hv, heq⟩
  · exact .of_no_error (by rw [heq, Block.padBody_err, Block.clearError_err])
  · exact .of_raise heq (Block.padCommand_bad_length hv hn) (by simp)
  · exact .of_raise heq (blockOf_unconfigured (i := .pad n) hv (by simp)) (by simp)

@[simp] theorem Block.verifyBody_err (b : Block) : b.verifyBody.err = b.err := by
  rw [Block.verifyBody, Block.judgeBody_err, Block.recordBody_err]

@[simp] theorem Block.verifyBody_errCause (b : Block) : b.verifyBody.errCause = b.errCause := by
  rw [Block.verifyBody, Block.judgeBody_errCause, Block.recordBody_errCause]

@[simp] theorem Block.runChunkBody_err (prbsStep : Word → Word) (b : Block) :
    (b.runChunkBody prbsStep).err = b.err := by
  simp [Block.runChunkBody]

@[simp] theorem Block.runChunkBody_errCause (prbsStep : Word → Word) (b : Block) :
    (b.runChunkBody prbsStep).errCause = b.errCause := by
  simp [Block.runChunkBody]

/-- Every command but CONFIGURE, whose failure also ends the run (45_control.md R111). -/
theorem blockOf_refusalPrecise {i : Instr} (hi : i ≠ .configure) (b : Block) :
    Block.RefusalPrecise (blockOf i) b := by
  cases i with
  | configure => exact absurd rfl hi
  | nop | clearErr | softReset => exact .of_no_error rfl
  | pad n => exact Block.padCommand_refusalPrecise n b
  | encode => exact Block.ifSequenced_refusalPrecise (Block.encodeBody_err _)
  | frame => exact Block.ifSequenced_refusalPrecise (Block.frameBody_err _)
  | corrupt => exact Block.ifSequenced_refusalPrecise (Block.corruptBody_err _ _)
  | verify => exact Block.ifSequenced_refusalPrecise (Block.verifyBody_err _)
  | runChunk => exact Block.ifSequenced_refusalPrecise (Block.runChunkBody_err _ _)

/-- Settles O30: `blockOf_refusalPrecise` for the decoded commands, and the bus's own refusal for the other words. -/
theorem refusalIsPrecise : Obligations.RefusalIsPrecise := by
  refine ⟨fun i s t hi h herr => ?_, fun s rest w r hp hd => stepHost_cmdWrite_error exec hp hd⟩
  obtain rfl := exec_next h
  obtain ⟨hraise, hcause⟩ := blockOf_refusalPrecise hi s.block herr
  exact ⟨exec_of_blockOf hraise, hcause⟩

/-! ## A mismatch is no error (60_exceptions.md R121) -/

theorem readReg_status_matchFlag (b : Block) : (b.readReg .status).getLsbD 2 = b.matchFlag :=
  readReg_status_flag b 2 (by decide)

/-- A block whose FSM is the outcome of its comparison reports that outcome in STATUS.MATCH (10_state.md R25). -/
theorem Block.status_reports_outcome {b : Block} (h : b.fsm = b.outcome) :
    (b.fsm = .matched ∧ (b.readReg .status).getLsbD 2 = true) ∨
      (b.fsm = .mismatched ∧ (b.readReg .status).getLsbD 2 = false) := by
  rw [readReg_status_matchFlag]
  by_cases hcheck : b.recomp = b.rxCheck
  · have hf : b.fsm = .matched := h.trans (if_pos hcheck)
    exact .inl ⟨hf, (matchFlag_eq_true b).2 hf⟩
  · have hf : b.fsm = .mismatched := h.trans (if_neg hcheck)
    exact .inr ⟨hf, Bool.eq_false_iff.2 (mt (matchFlag_eq_true b).1 (by simp [hf]))⟩

theorem Block.runChunkCommand_runs (prbsStep : Word → Word) {b : Block} (hv : b.cfgValid = true)
    (hf : b.fsm ∈ [Fsm.idle, .matched, .mismatched]) : b.runChunkCommand prbsStep = b.runChunkBody prbsStep :=
  Block.ifSequenced_runs _ hv ((Fsm.startsChunk_eq_true_iff _).2 hf)

/-- The block in another pipeline state. -/
def Block.withFsm (f : Fsm) (b : Block) : Block := { b with fsm := f }

@[simp] theorem Block.withFsm_fsm (f : Fsm) (b : Block) : (b.withFsm f).fsm = f := rfl
@[simp] theorem Block.withFsm_cfgValid (f : Fsm) (b : Block) : (b.withFsm f).cfgValid = b.cfgValid := rfl

/-- ENCODE writes FSM without reading it. -/
@[simp] theorem Block.encodeBody_withFsm (f : Fsm) (b : Block) : (b.withFsm f).encodeBody = b.encodeBody := rfl

/-- RUN_CHUNK begins with ENCODE (44_pipeline.md R104). -/
@[simp] theorem Block.runChunkBody_withFsm (prbsStep : Word → Word) (f : Fsm) (b : Block) :
    (b.withFsm f).runChunkBody prbsStep = b.runChunkBody prbsStep := by
  rw [Block.runChunkBody, Block.encodeBody_withFsm, Block.runChunkBody]

/-- A command whose body does not read FSM does the same from every state of its "from" set. -/
theorem Block.ifSequenced_withFsm_congr {allowed : Fsm → Bool} {body : Block → Block} {b : Block} {f g : Fsm}
    (hbody : ∀ f, body (b.withFsm f) = body b) (hv : b.cfgValid = true) (hf : allowed f = true)
    (hg : allowed g = true) : (b.withFsm f).ifSequenced allowed body = (b.withFsm g).ifSequenced allowed body := by
  rw [Block.ifSequenced_runs (b := b.withFsm f) body hv hf, Block.ifSequenced_runs (b := b.withFsm g) body hv hg, hbody,
    hbody]

/-- The next chunk starts from either outcome alike. -/
theorem blockOf_after_mismatch {i : Instr} {b : Block} (hi : i = .encode ∨ i = .runChunk) (hv : b.cfgValid = true) :
    blockOf i (b.withFsm .mismatched) = blockOf i (b.withFsm .matched) := by
  rcases hi with rfl | rfl
  · exact Block.ifSequenced_withFsm_congr (fun f => Block.encodeBody_withFsm f b) hv rfl rfl
  · exact Block.ifSequenced_withFsm_congr (fun f => Block.runChunkBody_withFsm xorshiftStep f b) hv rfl rfl

/-- A command's effect depends on the block alone. -/
theorem exec_congr {i : Instr} {s t : State} (hblock : blockOf i s.block = blockOf i t.block)
    (hpending : s.pending = t.pending) (hlog : s.readLog = t.readLog) : exec i s = exec i t := by
  rw [exec_of_blockOf hblock, exec_eq_onBlock, State.onBlock, hpending, hlog]

/-- Settles O36: the bodies of VERIFY and RUN_CHUNK leave the error fields and end in the outcome that STATUS reports,
and `blockOf_after_mismatch` is the next chunk. -/
theorem mismatchIsReportedNeverFatal : Obligations.MismatchIsReportedNeverFatal := by
  refine ⟨fun s i hv hrun => ?_, fun s i hi hv => ?_⟩
  · rcases hrun with ⟨rfl, hf⟩ | ⟨rfl, hf⟩
    · exact ⟨_, exec_of_blockOf (Block.verifyCommand_runs hv hf), Block.verifyBody_err _, Block.verifyBody_errCause _,
        Block.status_reports_outcome (Block.verifyBody_fsm _)⟩
    · exact ⟨_, exec_of_blockOf (Block.runChunkCommand_runs xorshiftStep hv hf), Block.runChunkBody_err _ _,
        Block.runChunkBody_errCause _ _, Block.status_reports_outcome (Block.runChunkBody_fsm _ _)⟩
  · exact exec_congr (blockOf_after_mismatch hi hv) rfl rfl

end Sys2Proof.Machine

namespace Sys2Proof.Machine

/-! ## The shadow registers (70_reset_and_hazards.md R133) -/

section
variable {g body : Block → Block} (hvalid : ∀ b, (g b).cfgValid = b.cfgValid)
  (hraise : ∀ cause, Function.Commute g (Block.raise cause)) (hbody : Function.Commute g body)
include hvalid hraise hbody

/-- A change of the block that CFG_VALID and a refusal do not notice passes through the CFG_VALID check. -/
theorem Block.ifConfigured_commute : Function.Commute g (Block.ifConfigured body) := by
  intro b
  rcases Block.ifConfigured_cases body b with ⟨hv, heq⟩ | ⟨hv, heq⟩
  · rw [heq, Block.ifConfigured_runs body ((hvalid b).trans hv)]
    exact hbody b
  · rw [heq, Block.ifConfigured, hvalid, hv]
    exact hraise _ b

/-- If the change leaves FSM too, it passes through the sequence check. -/
theorem Block.ifSequenced_commute (hfsm : ∀ b, (g b).fsm = b.fsm) (allowed : Fsm → Bool) :
    Function.Commute g (Block.ifSequenced allowed body) := by
  refine Block.ifConfigured_commute hvalid hraise fun b => ?_
  rw [hfsm, apply_ite g, hbody b, hraise .cmdSequence b]

end

/-- The block with other values in the four shadow registers. -/
def Block.withShadow (p : BitVec 9) (c : BitVec 7) (x : BitVec 17) (sd : Word) (b : Block) : Block :=
  { b with poly := p, chunkBits := c, pThresh := x, seed := sd }

section
variable (p : BitVec 9) (c : BitVec 7) (x : BitVec 17) (sd : Word)

theorem Block.withShadow_commute_raise (cause : ErrCause) :
    Function.Commute (Block.withShadow p c x sd) (Block.raise cause) := fun _ => rfl

theorem Block.withShadow_commute_padCommand (n : Nat) :
    Function.Commute (Block.withShadow p c x sd) (Block.padCommand n) := by
  refine Block.ifConfigured_commute (fun _ => rfl) (Block.withShadow_commute_raise p c x sd) fun b => ?_
  exact apply_ite (Block.withShadow p c x sd) (n = 0 ∨ n > b.chunkSize) (b.raise .cmdBadLength) (b.padBody n)

/-- A pipeline command ignores the shadow registers when its body does: its checks read CFG_VALID and FSM. -/
theorem Block.withShadow_commute_ifSequenced (allowed : Fsm → Bool) {body : Block → Block}
    (hbody : Function.Commute (Block.withShadow p c x sd) body) :
    Function.Commute (Block.withShadow p c x sd) (Block.ifSequenced allowed body) :=
  Block.ifSequenced_commute (g := Block.withShadow p c x sd) (fun _ => rfl) (Block.withShadow_commute_raise p c x sd)
    hbody (fun _ => rfl) allowed

theorem Block.withShadow_commute_encodeBody : Function.Commute (Block.withShadow p c x sd) Block.encodeBody :=
  fun _ => rfl

theorem Block.withShadow_commute_frameBody : Function.Commute (Block.withShadow p c x sd) Block.frameBody :=
  fun _ => rfl

theorem Block.withShadow_commute_corruptBody (prbsStep : Word → Word) :
    Function.Commute (Block.withShadow p c x sd) (Block.corruptBody prbsStep) :=
  fun _ => rfl

theorem Block.withShadow_commute_verifyBody : Function.Commute (Block.withShadow p c x sd) Block.verifyBody := by
  intro b
  rw [Block.verifyBody, Block.verifyBody, Block.judgeBody_eq, Block.judgeBody_eq]
  rfl

/-- RUN_CHUNK is the four bodies in a row (44_pipeline.md R104). -/
theorem Block.withShadow_commute_runChunkBody (prbsStep : Word → Word) :
    Function.Commute (Block.withShadow p c x sd) (Block.runChunkBody prbsStep) :=
  ((Block.withShadow_commute_verifyBody p c x sd).comp_right
    (Block.withShadow_commute_corruptBody p c x sd prbsStep)).comp_right
      ((Block.withShadow_commute_frameBody p c x sd).comp_right (Block.withShadow_commute_encodeBody p c x sd))

/-- CONFIGURE alone reads the shadow registers, and SOFT_RESET alone overwrites them. -/
theorem withShadow_commute_blockOf {i : Instr} (hconf : i ≠ .configure) (hreset : i ≠ .softReset) :
    Function.Commute (Block.withShadow p c x sd) (blockOf i) := by
  cases i with
  | configure => exact absurd rfl hconf
  | softReset => exact absurd rfl hreset
  | nop | clearErr => exact fun _ => rfl
  | pad n => exact Block.withShadow_commute_padCommand p c x sd n
  | encode => exact Block.withShadow_commute_ifSequenced p c x sd _ (Block.withShadow_commute_encodeBody p c x sd)
  | frame => exact Block.withShadow_commute_ifSequenced p c x sd _ (Block.withShadow_commute_frameBody p c x sd)
  | corrupt => exact Block.withShadow_commute_ifSequenced p c x sd _ (Block.withShadow_commute_corruptBody p c x sd _)
  | verify => exact Block.withShadow_commute_ifSequenced p c x sd _ (Block.withShadow_commute_verifyBody p c x sd)
  | runChunk => exact Block.withShadow_commute_ifSequenced p c x sd _ (Block.withShadow_commute_runChunkBody p c x sd _)

end

/-- Settles O37: writing the shadow registers commutes with every other command on the block. -/
theorem shadowRegistersAreInertUntilConfigure : Obligations.ShadowRegistersAreInertUntilConfigure := by
  intro s t i p c x sd hconf hreset h
  obtain rfl := exec_next h
  exact exec_of_blockOf (withShadow_commute_blockOf p c x sd hconf hreset s.block).symm

/-! ## The state after reset (70_reset_and_hazards.md R130, R132) -/

/-- A register's offset and what the host reads there after reset. -/
def RegName.resetEntry (r : RegName) : BitVec 8 × Word := (r.offset, Block.reset.readReg r)

/-- Settles O16: the statement's list is the register map with the value of each register in the reset block, and
`step_read` is the read. -/
theorem registerValuesAfterReset : Obligations.RegisterValuesAfterReset := by
  intro off v hmem
  obtain ⟨r, -, hr⟩ : ∃ r ∈ RegName.all, r.resetEntry = (off, v) := List.mem_map.1 hmem
  obtain ⟨rfl, rfl⟩ := Prod.mk.inj hr
  exact step_read r rfl

/-- The shadow registers after reset are a legal configuration. -/
theorem Block.reset_configureCheck : Block.reset.configureCheck = none := by
  rw [Block.configureCheck_chunk_legal (by decide) (by decide)]
  decide

/-- Settles O17: CONFIGURE finds the reset configuration legal, so it is `startRun`, which loads the reset values. -/
theorem defaultConfigureAfterReset : Obligations.DefaultConfigureAfterReset :=
  ⟨_, exec_of_blockOf (Block.configureCommand_succeeds Block.reset_configureCheck), rfl, rfl, rfl, rfl, rfl, by decide⟩

end Sys2Proof.Machine

namespace Sys2Proof

/-! ## The 137 legal words (30_encoding.md R72) -/

/-- Every command with its operand in its field: the nine without an operand, and PAD 0 to PAD 127. -/
def legalCommands : List Instr :=
  [.nop, .configure, .encode, .frame, .corrupt, .verify, .runChunk, .clearErr, .softReset] ++
    (List.range 128).map .pad

theorem mem_legalCommands (i : Instr) : i ∈ legalCommands ↔ i.WellFormed = true := by
  cases i <;> simp [legalCommands, Instr.WellFormed]

theorem legalCommands_nodup : legalCommands.Nodup := by
  refine List.Nodup.append (by decide) (List.nodup_range.map fun _ _ => Instr.pad.inj) ?_
  intro i hplain hpad
  obtain ⟨n, -, rfl⟩ := List.mem_map.1 hpad
  simp at hplain

/-- Different well-formed commands have different words, because each decodes to its command. -/
theorem encode_injOn {i j : Instr} (hi : i.WellFormed = true) (hj : j.WellFormed = true)
    (h : encode i = encode j) : i = j :=
  Except.ok.inj ((decode_encode hi).symm.trans (h ▸ decode_encode hj))

/-- Settles O1: `decode_eq_ok_iff`, and the words of the 9 + 128 well-formed commands, which are pairwise different. -/
theorem decodeIsTheExactInverseOfEncode : Obligations.DecodeIsTheExactInverseOfEncode := by
  refine ⟨fun _ _ => decode_eq_ok_iff, legalCommands.map encode, rfl, ?_, fun w => ?_⟩
  · exact legalCommands_nodup.map_on fun i hi j hj =>
      encode_injOn ((mem_legalCommands i).1 hi) ((mem_legalCommands j).1 hj)
  · simp only [List.mem_map, mem_legalCommands, decode_eq_ok_iff]

end Sys2Proof

namespace Sys2Proof.Machine

/-- Settles O42, which is `step_keeps_inv`. -/
theorem stepKeepsTheInvariant : Obligations.StepKeepsTheInvariant :=
  fun _ _ => step_keeps_inv

/-! ## The coherence of the current chunk, operation by operation (10_state.md R47, 44_pipeline.md R106) -/

/-- A frame of c + 8 bits is its data part and its check part. -/
theorem frame_eq_parts {c : Nat} {frame : BitVec 72} (h : frame.toNat < 2 ^ (c + 8)) :
    frame.toNat = (dataPart c frame).toNat * 2 ^ 8 + (checkPart frame).toNat := by
  have hdata : frame.toNat / 2 ^ 8 < 2 ^ c := Nat.div_lt_of_lt_mul (by rwa [Nat.mul_comm, ← Nat.pow_add])
  rw [dataPart_toNat, checkPart_toNat, Nat.mod_eq_of_lt hdata]
  omega

/-- The match flag of a block that stands at its outcome is the comparison (R25, R102). -/
theorem Block.matchFlag_of_outcome {b : Block} (h : b.fsm = b.outcome) : b.matchFlag = (b.recomp == b.rxCheck) := by
  rw [Bool.eq_iff_iff, matchFlag_eq_true, h, Block.outcome]
  simp

namespace Block.RecordInv

variable {b : Block}

/-- Without a chunk in progress nothing has to fit together. -/
theorem of_idle (h : b.fsm = .idle) : b.RecordInv where
  check_of_chunk hf := by simp [h, Fsm.hasChunk] at hf
  frame_of_chunk hf := by simp [h, Fsm.hasFrame] at hf
  received_parts hf := by simp [h, Fsm.hasRecord] at hf
  recomputed hf := by simp [h, Fsm.hasRecord] at hf
  match_flag hf := by simp [h, Fsm.hasRecord] at hf
  record_index hf := by simp [h, Fsm.hasRecord] at hf

/-- The registers the host writes itself and the error fields belong to no chunk. -/
theorem with_other_registers (h : b.RecordInv) (poly : BitVec 9) (chunkBits : BitVec 7) (pThresh : BitVec 17)
    (seed : Word) (data : BitVec 64) (err : Bool) (cause : ErrCause) : Block.RecordInv
      { b with poly := poly, chunkBits := chunkBits, pThresh := pThresh, seed := seed, data := data, err := err,
               errCause := cause } where
  check_of_chunk := h.check_of_chunk
  frame_of_chunk := h.frame_of_chunk
  received_parts := h.received_parts
  recomputed := h.recomputed
  match_flag := h.match_flag
  record_index := h.record_index

theorem writeReg (h : b.RecordInv) (r : RegName) (v : Word) : (b.writeReg r v).RecordInv := by
  cases r with
  | poly | chunkBits | pThresh | seed | dataLo | dataHi => exact h.with_other_registers _ _ _ _ _ _ _
  | _ => exact h

theorem raise (h : b.RecordInv) {cause : ErrCause} : (b.raise cause).RecordInv :=
  h.with_other_registers _ _ _ _ _ _ _

theorem clearError (h : b.RecordInv) : b.clearError.RecordInv :=
  h.with_other_registers _ _ _ _ _ _ _

theorem padBody (h : b.RecordInv) (n : Nat) : (b.padBody n).RecordInv :=
  h.with_other_registers _ _ _ _ _ _ _

/-- ENCODE starts a chunk, whatever the registers held. -/
theorem encodeBody : b.encodeBody.RecordInv where
  check_of_chunk _ := rfl
  frame_of_chunk hf := nomatch hf
  received_parts hf := nomatch hf
  recomputed hf := nomatch hf
  match_flag hf := nomatch hf
  record_index hf := nomatch hf

/-- FRAME writes the whole chunk, which has no bit above its width. -/
theorem frameBody (h : b.RecordInv) (hi : b.Inv) (hf : b.fsm = .encoded) : b.frameBody.RecordInv where
  check_of_chunk _ := h.check_of_chunk (by rw [hf]; rfl)
  frame_of_chunk _ := by
    rw [Block.frameBody_txFrame, frameOf_toNat, Nat.mod_eq_of_lt hi.txData_high_zero, Block.frameBody_txData,
      Block.frameBody_check]
  received_parts hf := nomatch hf
  recomputed hf := nomatch hf
  match_flag hf := nomatch hf
  record_index hf := nomatch hf

theorem corruptBody (h : b.RecordInv) (hf : b.fsm = .framed) : (b.corruptBody xorshiftStep).RecordInv where
  check_of_chunk _ := h.check_of_chunk (by rw [hf]; rfl)
  frame_of_chunk _ := h.frame_of_chunk (by rw [hf]; rfl)
  received_parts hf := nomatch hf
  recomputed hf := nomatch hf
  match_flag hf := nomatch hf
  record_index hf := nomatch hf

theorem verifyBody (h : b.RecordInv) (hi : b.Inv) (hf : b.fsm = .channeled) : b.verifyBody.RecordInv where
  check_of_chunk _ := by
    simpa [Block.verifyBody] using h.check_of_chunk (by rw [hf]; rfl)
  frame_of_chunk _ := by
    simpa [Block.verifyBody] using h.frame_of_chunk (by rw [hf]; rfl)
  received_parts _ := by
    simpa [Block.verifyBody] using frame_eq_parts hi.rxFrame_high_zero
  recomputed _ := by simp [Block.verifyBody]
  match_flag _ := Block.matchFlag_of_outcome (Block.verifyBody_fsm b)
  record_index _ := by simp [Block.verifyBody]

/-- RUN_CHUNK goes through the four bodies in order, each from the state before it (R104). -/
theorem runChunkBody (hi : b.Inv) (hv : b.cfgValid = true) : (b.runChunkBody xorshiftStep).RecordInv := by
  have hi_encoded := hi.encodeBody hv
  have hi_framed := hi_encoded.frameBody hv
  have hframed := (encodeBody (b := b)).frameBody hi_encoded rfl
  exact (hframed.corruptBody rfl).verifyBody (hi_framed.corruptBody hv) rfl

theorem ifSequenced (h : b.RecordInv) {allowed : Fsm → Bool} {body : Block → Block}
    (hbody : b.cfgValid = true → allowed b.fsm = true → (body b).RecordInv) :
    (b.ifSequenced allowed body).RecordInv := by
  rcases Block.ifSequenced_cases allowed body b with ⟨hv, ha, heq⟩ | ⟨-, -, heq⟩ | ⟨-, heq⟩
  · exact heq ▸ hbody hv ha
  · exact heq ▸ h.raise
  · exact heq ▸ h.raise

theorem padCommand (h : b.RecordInv) (n : Nat) : (b.padCommand n).RecordInv := by
  rcases Block.padCommand_cases n b with ⟨-, -, -, heq⟩ | ⟨-, -, heq⟩ | ⟨-, heq⟩
  · exact heq ▸ h.padBody n
  · exact heq ▸ h.raise
  · exact heq ▸ h.raise

/-- Every command keeps the registers of the current chunk coherent. -/
theorem blockOf (h : b.RecordInv) (hi : b.Inv) (i : Instr) : (blockOf i b).RecordInv := by
  cases i with
  | nop => exact h
  | configure => exact of_idle (Block.configureCommand_fsm b)
  | pad n => exact h.padCommand n
  | encode => exact h.ifSequenced fun _ _ => encodeBody
  | frame => exact h.ifSequenced fun _ ha => h.frameBody hi ((Fsm.startsFrame_eq_true_iff _).1 ha)
  | corrupt => exact h.ifSequenced fun _ ha => h.corruptBody ((Fsm.startsCorrupt_eq_true_iff _).1 ha)
  | verify => exact h.ifSequenced fun _ ha => h.verifyBody hi ((Fsm.startsVerify_eq_true_iff _).1 ha)
  | runChunk => exact h.ifSequenced fun hv _ => runChunkBody hi hv
  | clearErr => exact h.clearError
  | softReset => exact of_idle rfl

end Block.RecordInv

/-! ## The coherence along a run -/

theorem step_keeps_recordInv {s t : State} (hi : s.block.Inv) (hr : s.block.RecordInv) (h : step s = .next t) :
    t.block.RecordInv := by
  rcases step_cases h with ⟨-, rfl⟩ | ⟨rest, ⟨r, -, rfl⟩ | ⟨r, v, -, -, rfl⟩ | ⟨r, v, -, -, rfl⟩ |
    ⟨w, i, -, -, rfl⟩ | ⟨w, e, -, -, rfl⟩ | ⟨-, rfl⟩⟩
  · exact hr
  · exact hr
  · exact hr.writeReg r v
  · exact hr
  · exact hr.blockOf hi i
  · exact hr.raise
  · exact .of_idle rfl

/-- Settles O43, which is `step_keeps_recordInv`. -/
theorem stepKeepsTheRecordCoherent : Obligations.StepKeepsTheRecordCoherent :=
  fun _ _ => step_keeps_recordInv

/-- Settles O41: the reset block is IDLE. -/
theorem resetStateMeetsTheInvariant : Obligations.ResetStateMeetsTheInvariant :=
  ⟨Block.reset_inv, .of_idle rfl⟩

theorem Reachable.recordInv {s : State} (h : Reachable s) : s.block.RecordInv := by
  induction h with
  | reset events => exact .of_idle rfl
  | step hs hstep ih => exact step_keeps_recordInv hs.inv ih hstep
  | replan events _ ih => exact ih

/-- A finished record belongs to a chunk that was encoded and framed. -/
theorem Fsm.stages_of_outcome {f : Fsm} (h : f = .matched ∨ f = .mismatched) :
    f.hasChunk = true ∧ f.hasFrame = true ∧ f.hasRecord = true := by
  rcases h with rfl | rfl <;> decide

/-- Settles O45: the record is coherent in every reachable state, and the register form is the source's division. -/
theorem reachableRecordsAreCoherent : Obligations.ReachableRecordsAreCoherent := by
  intro s hs hf
  have hi := hs.inv
  have hr := hs.recordInv
  obtain ⟨hchunk, hframe, hrecord⟩ := Fsm.stages_of_outcome hf
  have hcheck := hr.check_of_chunk hchunk
  have hrecomp := hr.recomputed hrecord
  rw [crc8_eq_divideLiteral _ hi.txData_high_zero] at hcheck
  rw [crc8_eq_divideLiteral _ hi.rxData_high_zero] at hrecomp
  refine ⟨hcheck, hr.frame_of_chunk hframe, hr.received_parts hrecord, hrecomp, ?_, hr.record_index hrecord⟩
  rw [← matchFlag_eq_true, hr.match_flag hrecord, beq_iff_eq]

end Sys2Proof.Machine

namespace Sys2Proof.Machine

/-! ## What a read returns (10_state.md R18, R19, 20_memory.md R54, R56, R60) -/

/-- A word of a wide register as arithmetic. -/
theorem extractLsb'_word_toNat {w : Nat} (start : Nat) (x : BitVec w) :
    (x.extractLsb' start 32).toNat = x.toNat / 2 ^ start % 2 ^ 32 := by
  rw [BitVec.extractLsb'_toNat, Nat.shiftRight_eq_div_pow]

/-- A register of at most 32 bits reads as its value. -/
theorem setWidth_word_toNat {w : Nat} (hw : w ≤ 32) (x : BitVec w) : (x.setWidth 32).toNat = x.toNat := by
  rw [BitVec.toNat_setWidth, Nat.mod_eq_of_lt (lt_of_lt_of_le x.isLt (Nat.pow_le_pow_right (by decide) hw))]

theorem lowWord_toNat {w : Nat} (x : BitVec w) : (x.extractLsb' 0 32).toNat = x.toNat % 2 ^ 32 := by
  rw [extractLsb'_word_toNat, Nat.pow_zero, Nat.div_one]

theorem highWord_toNat (x : BitVec 64) : (x.extractLsb' 32 32).toNat = x.toNat / 2 ^ 32 := by
  have hx := x.isLt
  rw [extractLsb'_word_toNat]
  omega

theorem topByte_toNat (x : BitVec 72) : ((x.extractLsb' 64 8).setWidth 32).toNat = x.toNat / 2 ^ 64 := by
  have hx := x.isLt
  rw [setWidth_word_toNat (by decide), BitVec.extractLsb'_toNat, Nat.shiftRight_eq_div_pow]
  omega

/-- The number a read of each register returns, by the register map; STATUS is `readReg_status_toNat`. -/
def Block.readNat (b : Block) : RegName → Nat
  | .id => 0x43524338
  | .cmd => 0
  | .status => (b.readReg .status).toNat
  | .poly => b.poly.toNat
  | .chunkBits => b.chunkBits.toNat
  | .pThresh => b.pThresh.toNat
  | .seed => b.seed.toNat
  | .prbsState => b.prbsState.toNat
  | .dataLo => b.data.toNat % 2 ^ 32
  | .dataHi => b.data.toNat / 2 ^ 32
  | .txDataLo => b.txData.toNat % 2 ^ 32
  | .txDataHi => b.txData.toNat / 2 ^ 32
  | .check => b.check.toNat
  | .txFrame0 => b.txFrame.toNat % 2 ^ 32
  | .txFrame1 => b.txFrame.toNat / 2 ^ 32 % 2 ^ 32
  | .txFrame2 => b.txFrame.toNat / 2 ^ 64
  | .rxFrame0 => b.rxFrame.toNat % 2 ^ 32
  | .rxFrame1 => b.rxFrame.toNat / 2 ^ 32 % 2 ^ 32
  | .rxFrame2 => b.rxFrame.toNat / 2 ^ 64
  | .rxDataLo => b.rxData.toNat % 2 ^ 32
  | .rxDataHi => b.rxData.toNat / 2 ^ 32
  | .rxCheck => b.rxCheck.toNat
  | .recomp => b.recomp.toNat
  | .recIndex => b.recIndex.toNat
  | .burstCount => b.burstCount.toNat
  | .matchCount => b.matchCount.toNat
  | .mismatchCount => b.mismatchCount.toNat
  | .actPoly => b.actPoly.toNat
  | .actChunkBits => b.actChunkBits.toNat
  | .actPThresh => b.actPThresh.toNat

theorem readReg_toNat (b : Block) (r : RegName) : (b.readReg r).toNat = b.readNat r := by
  cases r with
  | id | cmd | status | seed | prbsState | recIndex | burstCount | matchCount | mismatchCount => rfl
  | poly | chunkBits | pThresh | check | rxCheck | recomp | actPoly | actChunkBits | actPThresh =>
    exact setWidth_word_toNat (by decide) _
  | dataLo | txDataLo | txFrame0 | rxFrame0 | rxDataLo => exact lowWord_toNat _
  | dataHi | txDataHi | rxDataHi => exact highWord_toNat _
  | txFrame1 | rxFrame1 => exact extractLsb'_word_toNat 32 _
  | txFrame2 | rxFrame2 => exact topByte_toNat _

/-- Settles O6: the statement's list is the register map without STATUS, each offset with its `Block.readNat`. -/
theorem registerMapReads : Obligations.RegisterMapReads := by
  intro s rest off v hmem hp
  obtain ⟨r, -, hr⟩ : ∃ r ∈ RegName.all.erase .status, (r.offset, s.block.readNat r) = (off, v) :=
    List.mem_map.1 hmem
  obtain ⟨rfl, rfl⟩ := Prod.mk.inj hr
  rw [← readReg_toNat, BitVec.ofNat_toNat, BitVec.setWidth_eq]
  exact step_read r hp

/-! ## The widths of the registers (10_state.md R19) -/

/-- The number of implemented bits of each register (R18). -/
def RegName.width : RegName → Nat
  | .cmd => 0
  | .chunkBits | .actChunkBits => 7
  | .check | .txFrame2 | .rxFrame2 | .rxCheck | .recomp => 8
  | .poly | .actPoly => 9
  | .status => 11
  | .pThresh | .actPThresh => 17
  | .id | .seed | .prbsState | .dataLo | .dataHi | .txDataLo | .txDataHi | .txFrame0 | .txFrame1 | .rxFrame0
  | .rxFrame1 | .rxDataLo | .rxDataHi | .recIndex | .burstCount | .matchCount | .mismatchCount => 32

theorem setWidth_toNat_lt {w v : Nat} (x : BitVec w) : (x.setWidth v).toNat < 2 ^ w :=
  lt_of_le_of_lt (by rw [BitVec.toNat_setWidth]; exact Nat.mod_le _ _) x.isLt

theorem readReg_toNat_lt (b : Block) (r : RegName) : (b.readReg r).toNat < 2 ^ r.width := by
  cases r with
  | cmd => exact Nat.one_pos
  | poly | chunkBits | pThresh | check | rxCheck | recomp | actPoly | actChunkBits | actPThresh | status | txFrame2
  | rxFrame2 => exact setWidth_toNat_lt _
  | _ => exact BitVec.isLt _

/-- An RW register reads back the low bits of what was written, as many as it implements. -/
theorem readReg_writeReg {r : RegName} (hr : r.access = .rw) (v : Word) (b : Block) :
    (b.writeReg r v).readReg r = BitVec.ofNat 32 (v.toNat % 2 ^ r.width) := by
  have hv := v.isLt
  apply BitVec.eq_of_toNat_eq
  rw [readReg_toNat, BitVec.toNat_ofNat]
  cases r with
  | poly | chunkBits | pThresh =>
    simp only [Block.writeReg, Block.readNat, RegName.width, BitVec.toNat_setWidth]
    omega
  | seed =>
    simp only [Block.writeReg, Block.readNat, RegName.width]
    omega
  | dataLo | dataHi =>
    simp only [writeReg_dataLo, writeReg_dataHi, Block.readNat, RegName.width, BitVec.toNat_ofNat]
    omega
  | _ => cases hr

/-- A register's offset and its width. -/
def RegName.widthEntry (r : RegName) : BitVec 8 × Nat := (r.offset, r.width)

/-- Settles O11: the statement's lists are the RW registers and the whole map, with the widths of `RegName.width`; a write
and a read are `step_write_rw` and `step_read`. -/
theorem registersHoldTheirWidth : Obligations.RegistersHoldTheirWidth := by
  refine ⟨fun s rest off width v hmem hp => ?_, fun s rest off width hmem hp => ?_⟩
  · obtain ⟨r, hrw, hr⟩ : ∃ r ∈ [RegName.poly, .chunkBits, .pThresh, .seed, .dataLo, .dataHi],
        r.widthEntry = (off, width) := List.mem_map.1 hmem
    obtain ⟨rfl, rfl⟩ := Prod.mk.inj hr
    have haccess : r.access = .rw := (show ∀ r ∈ _, RegName.access r = .rw by decide) r hrw
    refine ⟨_, (run_succ_next (step_write_rw haccess hp)).trans (run_succ_next (step_read r rfl)), rfl, ?_⟩
    rw [← readReg_writeReg haccess v s.block]
  · obtain ⟨r, -, hr⟩ : ∃ r ∈ RegName.all, r.widthEntry = (off, width) := List.mem_map.1 hmem
    obtain ⟨rfl, rfl⟩ := Prod.mk.inj hr
    exact ⟨_, step_read r hp, readReg_toNat_lt _ r⟩

/-! ## Runs over the host's list (20_memory.md R62, R64) -/

theorem run_of_step_refused (M : Host.Core) {k : Nat} {s : M.State} {r : M.Refusal} (h : M.step s = .refused r) :
    M.run (k + 1) s = .refused r := by
  rw [Host.Core.run, h]

theorem run_succ_refused {k : Nat} {s : State} {r : Refusal} (h : step s = .refused r) :
    Sys2Proof.core.run (k + 1) s = .refused r :=
  run_of_step_refused Sys2Proof.core h

/-- Serving the first event does not read the events after it, so a run over a list is the same with more to come. -/
theorem run_append {s t : State} {now : List HostEvent} (later : List HostEvent)
    (h : Sys2Proof.core.run now.length { s with pending := now } = .next t) :
    t.pending = [] ∧
      Sys2Proof.core.run now.length { s with pending := now ++ later } = .next { t with pending := later } := by
  induction now generalizing s with
  | nil =>
    obtain rfl := Host.Outcome.next.inj h
    exact ⟨rfl, rfl⟩
  | cons e rest ih =>
    have hstep : step { s with pending := e :: rest } = serve exec e { s with pending := rest } := step_cons rfl
    cases hserve : serve exec e { s with pending := rest } with
    | next u =>
      obtain ⟨hlater, hpending⟩ := serve_with_pending hserve (rest ++ later)
      have hu : u = { u with pending := rest } := congrArg (fun p => { u with pending := p }) hpending
      have hfirst : step { s with pending := e :: rest } = .next { u with pending := rest } :=
        hstep.trans (hserve.trans (congrArg _ hu))
      have hfirst_later : step { s with pending := e :: (rest ++ later) } = .next { u with pending := rest ++ later } :=
        (step_cons rfl).trans hlater
      obtain ⟨hend, hrun⟩ := ih ((run_succ_next hfirst).symm.trans h)
      exact ⟨hend, (run_succ_next hfirst_later).trans hrun⟩
    | fault r =>
      cases (run_succ_fault (hstep.trans hserve)).symm.trans h
    | refused r =>
      cases (run_succ_refused (hstep.trans hserve)).symm.trans h

theorem run_of_no_event {s : State} (hp : s.pending = []) (k : Nat) : Sys2Proof.core.run k s = .next s := by
  induction k with
  | zero => rfl
  | succ k ih => rw [run_succ_next (step_nil hp), ih]

/-- Settles O13, by `run_append` and `run_of_no_event`. -/
theorem accessesAreServedInIssueOrder : Obligations.AccessesAreServedInIssueOrder :=
  ⟨fun _ _ _ later h => run_append later h, fun _ k hp => run_of_no_event hp k⟩

/-! ## Steps fault exactly on events that are not legal (60_exceptions.md R127, R128) -/

/-- Whether an access is legal is whether it reaches a register. -/
theorem legalAccess_eq (off : BitVec 8) (size : AccessSize) :
    (decide (size = .bits32) && decide (off.toNat % 4 = 0) && decide (off.toNat < 0x78)) =
      (accessTarget off size).isSome := by
  rw [Bool.eq_iff_iff, Option.isSome_iff_ne_none, Ne, accessTarget_eq_none]
  simp only [Bool.and_eq_true, decide_eq_true_eq, not_or, not_not, Nat.not_le, and_assoc]

/-- A legal event is served: no register access fails. -/
theorem serve_legal {e : HostEvent} (he : e.Legal = true) (s : State) : ∃ t, serve exec e s = .next t := by
  cases e with
  | read off size =>
    obtain ⟨r, hr⟩ := Option.isSome_iff_exists.1 ((legalAccess_eq off size).symm.trans he)
    exact ⟨s.logRead (s.block.readReg r), by rw [serve, serveRead, hr]⟩
  | write off size v =>
    obtain ⟨r, hr⟩ := Option.isSome_iff_exists.1 ((legalAccess_eq off size).symm.trans he)
    rw [serve, serveWrite, hr]
    exact writeTarget_next r v s
  | hardwareReset => exact ⟨_, rfl⟩
  | accessDuringReset => cases he

theorem serve_illegal {e : HostEvent} (he : e.Legal = false) (s : State) : ∃ r, serve exec e s = .fault r := by
  cases e with
  | read off size =>
    have hnone : (accessTarget off size).isSome = false := (legalAccess_eq off size).symm.trans he
    exact ⟨.busError, serveRead_eq_busError.2 (Option.not_isSome_iff_eq_none.1 (Bool.eq_false_iff.1 hnone))⟩
  | write off size v =>
    have hnone : (accessTarget off size).isSome = false := (legalAccess_eq off size).symm.trans he
    exact ⟨.busError, serveWrite_eq_busError.2 (Option.not_isSome_iff_eq_none.1 (Bool.eq_false_iff.1 hnone))⟩
  | hardwareReset => cases he
  | accessDuringReset => exact ⟨_, rfl⟩

/-- Settles O14: a command acts on the block alone (`exec_eq_onBlock`), and an event is served or faults by
`HostEvent.Legal`. -/
theorem noUncheckedFailure : Obligations.NoUncheckedFailure := by
  refine ⟨fun i s => ⟨blockOf i s.block, exec_eq_onBlock i s⟩, fun s e rest hp => ?_⟩
  rw [step_cons hp]
  refine ⟨fun he => ?_, fun he => serve_illegal he _⟩
  obtain ⟨t, ht⟩ := serve_legal he { s with pending := rest }
  exact ⟨t, ht, (serve_with_pending ht rest).2⟩

/-! ## The pseudo-instruction `chunk v, n` (30_encoding.md R77) -/

/-- The block with another value in DATA. -/
def Block.withData (d : BitVec 64) (b : Block) : Block := { b with data := d }

/-- The two halves of a 64-bit value, written one after the other, replace DATA (20_memory.md R60). -/
theorem writeReg_data_halves (v : BitVec 64) (b : Block) :
    (b.writeReg .dataLo (v.extractLsb' 0 32)).writeReg .dataHi (v.extractLsb' 32 32) = b.withData v := by
  have hv := v.isLt
  have hdata : ((b.writeReg .dataLo (v.extractLsb' 0 32)).writeReg .dataHi (v.extractLsb' 32 32)).data = v := by
    apply BitVec.eq_of_toNat_eq
    simp only [writeReg_dataLo, writeReg_dataHi, lowWord_toNat, highWord_toNat, BitVec.toNat_ofNat]
    omega
  exact congrArg (Block.withData · b) hdata

/-- A CMD write of a command's own word runs that command. -/
theorem step_cmd {s : State} {i : Instr} {rest : List HostEvent} (hi : i.WellFormed = true)
    (hp : s.pending = cmdWrite (encode i) :: rest) :
    step s = .next { s with pending := rest, block := blockOf i s.block } :=
  (stepHost_cmdWrite_ok exec hp (decode_encode hi)).trans (exec_eq_onBlock i _)

/-- The three accesses of `chunk v, n`: `v` is staged, and PAD n runs. -/
theorem run_chunkLine {s : State} {v : BitVec 64} {n : Nat} {rest : List HostEvent} (hn : n ≤ 127)
    (hp : s.pending = (HostLine.chunk v n).events ++ rest) : Sys2Proof.core.run 3 s =
      .next { s with pending := rest, block := (s.block.withData v).padCommand n } := by
  rw [← writeReg_data_halves v s.block]
  have hlo := step_write_rw (r := .dataLo) rfl hp
  exact (run_succ_next hlo).trans ((run_succ_next (step_write_rw (r := .dataHi) rfl rfl)).trans
    (run_succ_next (step_cmd (i := .pad n) (pad_wellFormed hn) rfl)))

/-- Settles O60: `run_chunkLine`, with the value of the padded chunk from `padBody_data_toNat`. -/
theorem chunkPseudoInstructionStagesAPaddedChunk : Obligations.ChunkPseudoInstructionStagesAPaddedChunk := by
  intro s v n rest hv hc hpos hn hp
  refine ⟨((s.block.withData v).padBody n).data, ?_, padBody_data_toNat hc hn⟩
  rw [run_chunkLine (by omega) hp, Block.padCommand_runs (b := s.block.withData v) hv hpos hn]
  rfl

/-! ## The window and the resets -/

/-- Settles O12: the offset of an address in the window is its distance from the base, which is below 2^8. -/
theorem windowHoldsExactlyItsAddresses : Obligations.WindowHoldsExactlyItsAddresses := by
  intro base addr off
  have hoff := off.isLt
  unfold windowOffset
  split
  · rename_i h
    simp only [Config.windowBytes] at h
    rw [Option.some_inj, ← BitVec.toNat_inj, BitVec.toNat_ofNat, Nat.mod_eq_of_lt (by omega)]
    omega
  · rename_i h
    simp only [Config.windowBytes] at h
    simp only [reduceCtorEq, false_iff]
    omega

/-- Settles O15: both resets answer `Block.reset` whatever the block was. -/
theorem bothResetsGiveTheResetState : Obligations.BothResetsGiveTheResetState :=
  fun s _ => ⟨fun hp => (step_hardwareReset hp).trans (exec_eq_onBlock .softReset _), exec_eq_onBlock .softReset s,
    exec_eq_onBlock .softReset _⟩

/-- Settles O3, by evaluating the decoder on the six words. -/
theorem sampleWordsDecodeAsFormatC : Obligations.SampleWordsDecodeAsFormatC := by
  unfold Obligations.SampleWordsDecodeAsFormatC
  decide

end Sys2Proof.Machine

namespace Sys2Proof.Machine

/-! ## RUN_CHUNK as four commands (44_pipeline.md R104) -/

/-- Settles O25: from a state where a chunk may start, each of the four commands runs its body and reaches the "from"
state of the next, and `Block.runChunkBody` is the four bodies in a row. -/
theorem runChunkEqualsTheFourCommands : Obligations.RunChunkEqualsTheFourCommands := by
  refine ⟨by decide, fun s => ⟨fun hv => ?_, fun hv hf => ?_, fun hv hf => ?_⟩⟩
  · exact exec_of_blockOf (blockOf_unconfigured hv (by simp))
  · exact exec_of_blockOf (Block.ifSequenced_out_of_order _ hv (Fsm.startsChunk_eq_false hf))
  · have hstarts := Fsm.startsChunk_eq_true hf
    have hencode : exec .encode s = .next { s with block := s.block.encodeBody } :=
      exec_of_blockOf (Block.ifSequenced_runs _ hv hstarts)
    have hrun : exec .runChunk s = .next { s with block := s.block.runChunkBody xorshiftStep } :=
      exec_of_blockOf (Block.ifSequenced_runs _ hv hstarts)
    refine ⟨_, { s with block := s.block.encodeBody.frameBody },
      { s with block := s.block.encodeBody.frameBody.corruptBody xorshiftStep }, _, hencode, ?_, ?_, ?_, hrun, rfl, rfl,
      rfl, ?_⟩
    · exact exec_of_blockOf (Block.frameCommand_runs hv rfl)
    · exact exec_of_blockOf (Block.corruptCommand_runs xorshiftStep hv rfl)
    · exact exec_of_blockOf (Block.verifyCommand_runs hv rfl)
    · exact (Block.status_reports_outcome (Block.runChunkBody_fsm xorshiftStep s.block)).imp And.left And.left

/-! ## Commands without a configuration (10_state.md R23) -/

theorem Block.configureCommand_ne_cmdNotConfigured (b : Block) :
    b.configureCommand.errCause ≠ .cmdNotConfigured := by
  rcases Block.configureCommand_cases b with ⟨-, heq⟩ | ⟨cause, hcheck, heq⟩
  · simp [heq]
  · rw [heq, Block.failConfigure_errCause]
    rintro rfl
    simpa using Block.configureCheck_cause hcheck

/-- Settles O29: `blockOf_unconfigured` for the data commands; CONFIGURE records causes of its own, and the other three
record none. -/
theorem dataCommandsNeedAConfiguration : Obligations.DataCommandsNeedAConfiguration := by
  refine fun s hv => ⟨fun i hi => exec_of_blockOf (blockOf_unconfigured hv ?_), fun i t hi h hcause => ?_⟩
  · rcases hi with ⟨n, rfl⟩ | rfl | rfl | rfl | rfl | rfl <;> simp
  · obtain rfl := exec_next h
    rcases hi with rfl | rfl | rfl | rfl
    · exact hcause
    · exact absurd hcause (Block.configureCommand_ne_cmdNotConfigured _)
    · cases hcause
    · cases hcause

/-! ## What a command keeps (10_state.md R15) -/

section
variable {α : Type} {f : Block → α} {b : Block} (hraise : ∀ cause, f (b.raise cause) = f b)
include hraise

/-- What a refusal and the body keep, the pipeline command keeps. -/
theorem Block.ifSequenced_keeps {allowed : Fsm → Bool} {body : Block → Block} (hbody : f (body b) = f b) :
    f (b.ifSequenced allowed body) = f b := by
  rcases Block.ifSequenced_cases allowed body b with ⟨-, -, heq⟩ | ⟨-, -, heq⟩ | ⟨-, heq⟩
  · rw [heq, hbody]
  · rw [heq, hraise]
  · rw [heq, hraise]

theorem Block.padCommand_keeps {n : Nat} (hbody : f (b.padBody n) = f b) : f (b.padCommand n) = f b := by
  rcases Block.padCommand_cases n b with ⟨-, -, -, heq⟩ | ⟨-, -, heq⟩ | ⟨-, heq⟩
  · rw [heq, hbody]
  · rw [heq, hraise]
  · rw [heq, hraise]

end

/-- The registers the rule of each command names as written, with STATUS for the commands that can be refused. -/
def writtenRegs : Instr → List RegName
  | .nop => []
  | .configure => [.status, .prbsState, .txDataLo, .txDataHi, .check, .txFrame0, .txFrame1, .txFrame2, .rxFrame0,
      .rxFrame1, .rxFrame2, .rxDataLo, .rxDataHi, .rxCheck, .recomp, .recIndex, .burstCount, .matchCount,
      .mismatchCount, .actPoly, .actChunkBits, .actPThresh]
  | .pad _ => [.status, .dataLo, .dataHi]
  | .encode => [.status, .txDataLo, .txDataHi, .check]
  | .frame => [.status, .txFrame0, .txFrame1, .txFrame2]
  | .corrupt => [.status, .rxFrame0, .rxFrame1, .rxFrame2, .prbsState]
  | .verify => [.status, .rxDataLo, .rxDataHi, .rxCheck, .recomp, .recIndex, .burstCount, .matchCount, .mismatchCount]
  | .runChunk => [.status, .txDataLo, .txDataHi, .check, .txFrame0, .txFrame1, .txFrame2, .rxFrame0, .rxFrame1,
      .rxFrame2, .prbsState, .rxDataLo, .rxDataHi, .rxCheck, .recomp, .recIndex, .burstCount, .matchCount,
      .mismatchCount]
  | .clearErr => [.status]
  | .softReset => RegName.all.filter fun r => r ≠ .id ∧ r ≠ .cmd

/-- Every command but NOP names STATUS as written. -/
theorem ne_status_of_not_mem_writtenRegs {i : Instr} {r : RegName} (hi : i ≠ .nop) (hr : r ∉ writtenRegs i) :
    r ≠ .status := by
  rintro rfl
  cases i with
  | nop => exact hi rfl
  | softReset => exact hr (by decide)
  | _ => simp [writtenRegs] at hr

theorem Block.raise_readReg {r : RegName} (hr : r ≠ .status) (cause : ErrCause) (b : Block) :
    (b.raise cause).readReg r = b.readReg r := by
  cases r with
  | status => exact absurd rfl hr
  | _ => rfl

theorem Block.clearError_readReg {r : RegName} (hr : r ∉ writtenRegs .clearErr) (b : Block) :
    b.clearError.readReg r = b.readReg r := by
  cases r with
  | status => exact absurd (by decide) hr
  | _ => rfl

theorem Block.padBody_readReg {r : RegName} {n : Nat} (hr : r ∉ writtenRegs (.pad n)) (b : Block) :
    (b.padBody n).readReg r = b.readReg r := by
  cases r with
  | status | dataLo | dataHi => simp [writtenRegs] at hr
  | _ => rfl

theorem Block.encodeBody_readReg {r : RegName} (hr : r ∉ writtenRegs .encode) (b : Block) :
    b.encodeBody.readReg r = b.readReg r := by
  cases r with
  | status | txDataLo | txDataHi | check => exact absurd (by decide) hr
  | _ => rfl

theorem Block.frameBody_readReg {r : RegName} (hr : r ∉ writtenRegs .frame) (b : Block) :
    b.frameBody.readReg r = b.readReg r := by
  cases r with
  | status | txFrame0 | txFrame1 | txFrame2 => exact absurd (by decide) hr
  | _ => rfl

theorem Block.corruptBody_readReg {r : RegName} (hr : r ∉ writtenRegs .corrupt) (prbsStep : Word → Word) (b : Block) :
    (b.corruptBody prbsStep).readReg r = b.readReg r := by
  cases r with
  | status | rxFrame0 | rxFrame1 | rxFrame2 | prbsState => exact absurd (by decide) hr
  | _ => rfl

theorem Block.verifyBody_readReg {r : RegName} (hr : r ∉ writtenRegs .verify) (b : Block) :
    b.verifyBody.readReg r = b.readReg r := by
  rw [Block.verifyBody, Block.judgeBody_eq]
  cases r with
  | status | rxDataLo | rxDataHi | rxCheck | recomp | recIndex | burstCount | matchCount | mismatchCount =>
    exact absurd (by decide) hr
  | _ => rfl

/-- RUN_CHUNK writes what its four bodies write (R104). -/
theorem Block.runChunkBody_readReg {r : RegName} (hr : r ∉ writtenRegs .runChunk) (prbsStep : Word → Word)
    (b : Block) : (b.runChunkBody prbsStep).readReg r = b.readReg r := by
  have part {i : Instr} (hsub : writtenRegs i ⊆ writtenRegs .runChunk) : r ∉ writtenRegs i := mt (@hsub r) hr
  rw [Block.runChunkBody, Block.verifyBody_readReg (part (by decide)), Block.corruptBody_readReg (part (by decide)),
    Block.frameBody_readReg (part (by decide)), Block.encodeBody_readReg (part (by decide))]

/-- A failed CONFIGURE writes fields of STATUS alone (45_control.md R111). -/
theorem Block.failConfigure_readReg {r : RegName} (hr : r ≠ .status) (cause : ErrCause) (b : Block) :
    (b.failConfigure cause).readReg r = b.readReg r := by
  cases r with
  | status => exact absurd rfl hr
  | _ => rfl

theorem Block.startRun_readReg {r : RegName} (hr : r ∉ writtenRegs .configure) (b : Block) :
    b.startRun.readReg r = b.readReg r := by
  cases r with
  | id | cmd | poly | chunkBits | pThresh | seed | dataLo | dataHi => rfl
  | _ => exact absurd (by decide) hr

theorem Block.reset_readReg {r : RegName} (hr : r ∉ writtenRegs .softReset) (b : Block) :
    Block.reset.readReg r = b.readReg r := by
  cases r with
  | id | cmd => rfl
  | _ => exact absurd (by decide) hr

theorem Block.configureCommand_readReg {r : RegName} (hr : r ∉ writtenRegs .configure) (b : Block) :
    b.configureCommand.readReg r = b.readReg r := by
  rcases Block.configureCommand_cases b with ⟨-, heq⟩ | ⟨cause, -, heq⟩
  · rw [heq, Block.startRun_readReg hr]
  · rw [heq, Block.failConfigure_readReg (ne_status_of_not_mem_writtenRegs (i := .configure) nofun hr)]

/-- Every register outside the list of its command reads as before. -/
theorem blockOf_readReg {i : Instr} {r : RegName} (hr : r ∉ writtenRegs i) (b : Block) :
    (blockOf i b).readReg r = b.readReg r := by
  have hraise (hi : i ≠ .nop) (cause : ErrCause) : (b.raise cause).readReg r = b.readReg r :=
    Block.raise_readReg (ne_status_of_not_mem_writtenRegs hi hr) cause b
  cases i with
  | nop => rfl
  | configure => exact Block.configureCommand_readReg hr b
  | pad n => exact Block.padCommand_keeps (f := (·.readReg r)) (hraise nofun) (Block.padBody_readReg hr b)
  | encode => exact Block.ifSequenced_keeps (f := (·.readReg r)) (hraise nofun) (Block.encodeBody_readReg hr b)
  | frame => exact Block.ifSequenced_keeps (f := (·.readReg r)) (hraise nofun) (Block.frameBody_readReg hr b)
  | corrupt => exact Block.ifSequenced_keeps (f := (·.readReg r)) (hraise nofun) (Block.corruptBody_readReg hr _ b)
  | verify => exact Block.ifSequenced_keeps (f := (·.readReg r)) (hraise nofun) (Block.verifyBody_readReg hr b)
  | runChunk => exact Block.ifSequenced_keeps (f := (·.readReg r)) (hraise nofun) (Block.runChunkBody_readReg hr _ b)
  | clearErr => exact Block.clearError_readReg hr b
  | softReset => exact Block.reset_readReg hr b

/-- Settles O32: `exec_eq_onBlock` for the host's lists and `blockOf_readReg` for the registers. -/
theorem commandsWriteOnlyTheirRegisters : Obligations.CommandsWriteOnlyTheirRegisters := by
  intro i s t h
  obtain rfl := exec_next h
  refine ⟨rfl, rfl, fun r hr => blockOf_readReg ?_ s.block⟩
  cases i <;> exact hr

/-! ## What can change a part of the block (10_state.md R23, R24, R32, R45) -/

/-- A part of the block that no host write and no refused word touches changes only by a hardware reset or by one of the
commands that can touch it. -/
theorem step_changes {α : Type} {f : Block → α} {s t : State} (commands : List Instr)
    (hwrite : ∀ r v, f (s.block.writeReg r v) = f s.block) (hraise : f (s.block.raise .cmdIllegal) = f s.block)
    (hcommand : ∀ i, i ∉ commands → f (blockOf i s.block) = f s.block) (h : step s = .next t)
    (hne : f t.block ≠ f s.block) :
    ∃ rest, s.pending = .hardwareReset :: rest ∨
      ∃ w ∈ commands.map encode, s.pending = cmdWrite w :: rest := by
  rcases step_cases h with ⟨-, rfl⟩ | ⟨rest, ⟨r, -, rfl⟩ | ⟨r, v, -, -, rfl⟩ | ⟨r, v, -, -, rfl⟩ | ⟨w, i, hp, hd, rfl⟩ |
    ⟨w, e, -, -, rfl⟩ | ⟨hp, -⟩⟩
  · exact absurd rfl hne
  · exact absurd rfl hne
  · exact absurd (hwrite r v) hne
  · exact absurd rfl hne
  · have hi : i ∈ commands := by
      by_contra hi
      exact hne (hcommand i hi)
    exact ⟨rest, .inr ⟨w, List.mem_map.2 ⟨i, hi, (decode_eq_ok_iff.1 hd).2⟩, hp⟩⟩
  · exact absurd hraise hne
  · exact ⟨rest, .inl hp⟩

/-- Settles O33: PRBS_STATE is a register that the other commands do not name as written. -/
theorem onlyFourCommandsAndResetMoveTheGenerator : Obligations.OnlyFourCommandsAndResetMoveTheGenerator := by
  intro s t h hne
  refine step_changes (f := Block.prbsState) [.configure, .corrupt, .runChunk, .softReset] (fun r v => ?_) rfl
    (fun i hi => ?_) h hne
  · cases r <;> rfl
  · refine blockOf_readReg (r := .prbsState) ?_ s.block
    cases i with
    | configure | corrupt | runChunk | softReset => simp at hi
    | _ => simp [writtenRegs]

/-- CFG_VALID and the active configuration (R23, R45). -/
def Block.setup (b : Block) : Bool × BitVec 9 × BitVec 7 × BitVec 17 :=
  (b.cfgValid, b.actPoly, b.actChunkBits, b.actPThresh)

theorem Block.verifyBody_setup (b : Block) : b.verifyBody.setup = b.setup := by
  rw [Block.verifyBody, Block.judgeBody_eq]
  rfl

theorem blockOf_setup {i : Instr} (hi : i ∉ [.configure, .softReset]) (b : Block) :
    (blockOf i b).setup = b.setup := by
  cases i with
  | configure | softReset => simp at hi
  | nop | clearErr => rfl
  | pad n => exact Block.padCommand_keeps (fun _ => rfl) rfl
  | encode | frame | corrupt => exact Block.ifSequenced_keeps (fun _ => rfl) rfl
  | verify => exact Block.ifSequenced_keeps (fun _ => rfl) (Block.verifyBody_setup b)
  | runChunk => exact Block.ifSequenced_keeps (fun _ => rfl) (Block.verifyBody_setup _)

/-- Settles O34, by `step_changes` at `Block.setup`. -/
theorem onlySetupChangesTheActiveConfiguration : Obligations.OnlySetupChangesTheActiveConfiguration := by
  intro s t h hne
  refine step_changes (f := Block.setup) [.configure, .softReset] (fun r v => ?_) rfl (fun i hi => blockOf_setup hi _) h
    fun heq => ?_
  · cases r <;> rfl
  · simp only [Block.setup, Prod.mk.injEq] at heq
    tauto

/-- Every command but the three that clear ERR keeps a set ERR: it keeps ERR or sets it (R24). -/
theorem blockOf_err {i : Instr} (hi : i ∉ [.configure, .clearErr, .softReset]) {b : Block} (herr : b.err = true) :
    (blockOf i b).err = b.err := by
  have hraise (cause : ErrCause) : (b.raise cause).err = b.err := herr.symm
  cases i with
  | configure | clearErr | softReset => simp at hi
  | nop => rfl
  | pad n => exact Block.padCommand_keeps hraise rfl
  | encode | frame | corrupt => exact Block.ifSequenced_keeps hraise rfl
  | verify => exact Block.ifSequenced_keeps hraise (Block.verifyBody_err b)
  | runChunk => exact Block.ifSequenced_keeps hraise (Block.runChunkBody_err _ b)

/-- Settles O35, by `step_changes` at ERR. -/
theorem errorFlagIsSticky : Obligations.ErrorFlagIsSticky := by
  intro s t h hset hcleared
  refine step_changes (f := Block.err) [.configure, .clearErr, .softReset] (fun r v => ?_) hset.symm
    (fun i hi => blockOf_err hi hset) h (by simp [hset, hcleared])
  cases r <;> rfl

/-! ## What the commands do not read (70_reset_and_hazards.md R137, 43_channel.md R97, 44_pipeline.md R108) -/

/-- A pipeline command ignores DATA when its body does: its checks read CFG_VALID and FSM. -/
theorem Block.withData_commute_ifSequenced (d : BitVec 64) (allowed : Fsm → Bool) {body : Block → Block}
    (hbody : Function.Commute (Block.withData d) body) :
    Function.Commute (Block.withData d) (Block.ifSequenced allowed body) :=
  Block.ifSequenced_commute (g := Block.withData d) (fun _ => rfl) (fun _ _ => rfl) hbody (fun _ => rfl) allowed

theorem Block.withData_commute_verifyBody (d : BitVec 64) : Function.Commute (Block.withData d) Block.verifyBody := by
  intro b
  rw [Block.verifyBody, Block.verifyBody, Block.judgeBody_eq, Block.judgeBody_eq]
  rfl

/-- Settles O38: writing DATA commutes with FRAME, CORRUPT and VERIFY. -/
theorem stagingDoesNotDisturbTheChunkInFlight : Obligations.StagingDoesNotDisturbTheChunkInFlight := by
  intro s t i d hi h
  obtain rfl := exec_next h
  have hcommute : Function.Commute (Block.withData d) (blockOf i) := by
    rcases hi with rfl | rfl | rfl
    · exact Block.withData_commute_ifSequenced d _ fun _ => rfl
    · exact Block.withData_commute_ifSequenced d _ fun _ => rfl
    · exact Block.withData_commute_ifSequenced d _ (Block.withData_commute_verifyBody d)
  exact exec_of_blockOf (hcommute s.block).symm

/-- A CONFIGURE that leaves CFG_VALID set has succeeded. -/
theorem Block.configureCheck_of_cfgValid {b : Block} (h : b.configureCommand.cfgValid = true) :
    b.configureCheck = none := by
  rcases Block.configureCommand_cases b with ⟨hcheck, -⟩ | ⟨cause, -, heq⟩
  · exact hcheck
  · simp [heq] at h

/-- Settles O39: the checks read the shadow registers alone, and a started run is made of these and DATA. -/
theorem configureErasesTheEarlierRun : Obligations.ConfigureErasesTheEarlierRun := by
  intro s1 s2 t1 t2 hpoly hchunk hthresh hseed hdata h1 h2 hvalid
  obtain rfl := exec_next h1
  obtain rfl := exec_next h2
  have hcheck1 : s1.block.configureCheck = none := Block.configureCheck_of_cfgValid hvalid
  have hcheck2 : s2.block.configureCheck = none := by
    simpa only [Block.configureCheck, hpoly, hchunk, hthresh] using hcheck1
  calc s1.block.configureCommand = s1.block.startRun := Block.configureCommand_succeeds hcheck1
    _ = s2.block.startRun := by simp only [Block.startRun, hpoly, hchunk, hthresh, hseed, hdata]
    _ = s2.block.configureCommand := (Block.configureCommand_succeeds hcheck2).symm

/-- The registers of a chunk's pass, which STATUS.FSM follows (`Block.runChunkBody_fsm`), and PRBS_STATE after it. -/
def Block.chunkRegs (b : Block) :
    BitVec 64 × BitVec 8 × BitVec 72 × BitVec 72 × BitVec 64 × BitVec 8 × BitVec 8 × Word :=
  (b.txData, b.check, b.txFrame, b.rxFrame, b.rxData, b.rxCheck, b.recomp, b.prbsState)

/-- ENCODE reads the low c bits of DATA, and the bodies after it read what it wrote, the active configuration and
PRBS_STATE. -/
theorem Block.runChunkBody_chunkRegs_congr (prbsStep : Word → Word) {a b : Block} (hpoly : a.actPoly = b.actPoly)
    (hchunk : a.chunkSize = b.chunkSize) (hthresh : a.actPThresh = b.actPThresh) (hprbs : a.prbsState = b.prbsState)
    (hdata : zextLow b.chunkSize a.data = zextLow b.chunkSize b.data) :
    (a.runChunkBody prbsStep).chunkRegs = (b.runChunkBody prbsStep).chunkRegs := by
  have hframe : a.frameSize = b.frameSize := congrArg (· + 8) hchunk
  simp [Block.chunkRegs, Block.runChunkBody, Block.verifyBody, hchunk, hdata, hframe, hpoly, hthresh, hprbs]

/-- Settles O40: `Block.runChunkBody_chunkRegs_congr` for the registers, and FSM is the outcome of two of them. -/
theorem chunkOutcomeDependsOnThreeThings : Obligations.ChunkOutcomeDependsOnThreeThings := by
  intro s1 s2 hv1 hv2 hf1 hf2 hpoly hchunk hthresh hprbs hdata
  refine ⟨_, _, exec_of_blockOf (Block.runChunkCommand_runs xorshiftStep hv1 hf1),
    exec_of_blockOf (Block.runChunkCommand_runs xorshiftStep hv2 hf2), ?_⟩
  have hlow : zextLow s2.block.chunkSize s1.block.data = zextLow s2.block.chunkSize s2.block.data := by
    apply BitVec.eq_of_toNat_eq
    rw [zextLow_toNat, zextLow_toNat]
    rwa [hchunk] at hdata
  have hregs := Block.runChunkBody_chunkRegs_congr xorshiftStep hpoly (congrArg BitVec.toNat hchunk) hthresh hprbs hlow
  simp only [Block.chunkRegs, Prod.mk.injEq] at hregs
  obtain ⟨htxData, hcheck, htxFrame, hrxFrame, hrxData, hrxCheck, hrecomp, hstate⟩ := hregs
  refine ⟨htxData, hcheck, htxFrame, hrxFrame, hrxData, hrxCheck, hrecomp, ?_, hstate⟩
  rw [Block.runChunkBody_fsm, Block.runChunkBody_fsm, Block.outcome, Block.outcome, hrecomp, hrxCheck]

end Sys2Proof.Machine

namespace Sys2Proof.Machine

/-! ## Error patterns on a codeword (42_crc.md R88) -/

section Gf2

open Polynomial

/-- A chunk and its check code are a multiple of P(x) (R87). -/
theorem dvd_bitsPoly_codeword {P : BitVec 9} (hP : P.getLsbD 8 = true) (D c : Nat) :
    bitsPoly 9 P.toNat ∣ bitsPoly (c + 8) (D * 2 ^ 8 + (crc8 D c P).toNat) := by
  have hcheck := (crc8 D c P).isLt
  have hdata : (D * 2 ^ 8 + (crc8 D c P).toNat) / 2 ^ 8 = D := by omega
  have hlow : (D * 2 ^ 8 + (crc8 D c P).toNat) % 2 ^ 8 = (crc8 D c P).toNat := by omega
  rw [bitsPoly_split c, hdata, ← bitsPoly_mod_two_pow 8 (_ + _), hlow, ← CharTwo.sub_eq_add]
  exact dvd_sub_bitsPoly_crc8 hP D c

/-- More zero bits at the end multiply by a power of x. -/
theorem bitsPoly_mul_two_pow (L v j : Nat) : bitsPoly (L + j) (v * 2 ^ j) = bitsPoly L v * X ^ j := by
  induction j with
  | zero => rw [Nat.add_zero, pow_zero, pow_zero, mul_one, mul_one]
  | succ j ih => rw [← Nat.add_assoc, pow_succ', Nat.mul_left_comm, bitsPoly_two_mul, ih, pow_succ, mul_assoc]

/-- Zero bits in front add nothing. -/
theorem bitsPoly_of_lt {L L' v : Nat} (hv : v < 2 ^ L) (hL : L ≤ L') : bitsPoly L' v = bitsPoly L v := by
  ext i
  have hhigh : L ≤ i → v.testBit i = false := fun hi =>
    Nat.testBit_lt_two_pow (lt_of_lt_of_le hv (Nat.pow_le_pow_right (by decide) hi))
  rw [coeff_bitsPoly, coeff_bitsPoly]
  by_cases hi : i < L
  · simp [hi, lt_of_lt_of_le hi hL]
  · simp [hi, hhigh (Nat.le_of_not_lt hi)]

/-- A short pattern moved up `j` places within `n` bits. -/
theorem bitsPoly_shifted {k n v j : Nat} (hv : v < 2 ^ k) (hfits : k + j ≤ n) :
    bitsPoly n (v * 2 ^ j) = bitsPoly k v * X ^ j := by
  obtain ⟨d, rfl⟩ := Nat.exists_eq_add_of_le hfits
  rw [Nat.add_right_comm, bitsPoly_mul_two_pow, bitsPoly_of_lt hv (Nat.le_add_right k d)]

theorem bitsPoly_two_pow {n j : Nat} (hj : j < n) : bitsPoly n (2 ^ j) = X ^ j := by
  have hone : bitsPoly 1 1 = 1 := by simp [bitsPoly]
  rw [← Nat.one_mul (2 ^ j), bitsPoly_shifted (k := 1) (by decide) (by omega), hone, one_mul]

/-- With P[0] = 1, no power of x is a multiple of P(x): x is invertible modulo P(x), which is no unit. -/
theorem not_dvd_X_pow {P : BitVec 9} (hP : P.getLsbD 8 = true) (h0 : P.getLsbD 0 = true) (j : Nat) :
    ¬ bitsPoly 9 P.toNat ∣ X ^ j := by
  intro h
  have hunit : IsUnit (bitsPoly 9 P.toNat) := (isCoprime_bitsPoly_X h0).pow_right.isUnit_of_dvd' dvd_rfl h
  have hdegree := degree_eq_zero_of_isUnit hunit
  rw [degree_bitsPoly_eq hP] at hdegree
  exact absurd hdegree (by decide)

end Gf2

theorem Block.verifyBody_mismatched_iff (b : Block) :
    b.verifyBody.fsm = .mismatched ↔ ¬ b.verifyBody.fsm = .matched := by
  rw [Block.verifyBody_fsm, Block.outcome]
  split <;> simp

/-- VERIFY of a codeword with the error pattern `errors` reaches MATCH exactly when the pattern is a multiple of
P(x). -/
theorem Block.verifyBody_matched_iff_dvd_errors {b : Block} (hP : b.actPoly.getLsbD 8 = true) {D errors : Nat}
    (hframe : b.rxFrame.toNat = (D * 2 ^ 8 + (crc8 D b.chunkSize b.actPoly).toNat) ^^^ errors) :
    b.verifyBody.fsm = .matched ↔ bitsPoly 9 b.actPoly.toNat ∣ bitsPoly (b.chunkSize + 8) errors := by
  rw [Block.verifyBody_matched_iff, ← dvd_bitsPoly_frame_iff hP, hframe, bitsPoly_xor,
    dvd_add_right (dvd_bitsPoly_codeword hP D b.chunkSize)]

theorem Block.ConfigLegal.poly_getLsbD {b : Block} (h : b.ConfigLegal) : b.actPoly.getLsbD 8 = true := by
  simpa only [BitVec.msb_eq_getLsbD_last] using h.poly_first_bit

/-- Settles O51: `Block.verifyBody_matched_iff_dvd_errors`, with the check code in the source's form. -/
theorem detectionIsExactlyNonDivisibility : Obligations.DetectionIsExactlyNonDivisibility := by
  intro s errors hv hf hlegal hdata _ hframe
  rw [← crc8_eq_divideLiteral _ hdata] at hframe
  refine ⟨_, exec_of_blockOf (Block.verifyCommand_runs hv hf), ?_⟩
  exact s.block.verifyBody_mismatched_iff.trans
    (not_congr (Block.verifyBody_matched_iff_dvd_errors hlegal.poly_getLsbD hframe))

/-- Settles O52: the pattern P << j is the polynomial P(x)·x^j, as long as it fits the frame. -/
theorem multiplesOfThePolynomialPassUndetected : Obligations.MultiplesOfThePolynomialPassUndetected := by
  intro s j hv hf hlegal hdata hj hframe
  rw [← crc8_eq_divideLiteral _ hdata] at hframe
  refine ⟨_, exec_of_blockOf (Block.verifyCommand_runs hv hf),
    (Block.verifyBody_matched_iff_dvd_errors hlegal.poly_getLsbD hframe).2 ?_⟩
  have hmin : 2 ≤ s.block.chunkSize := hlegal.two_le_chunk
  have hfits : j ≤ s.block.chunkSize + 8 - 9 := hj
  rw [bitsPoly_shifted s.block.actPoly.isLt (by omega)]
  exact dvd_mul_right _ _

/-- Settles O53: a single-bit pattern is a power of x (`not_dvd_X_pow`). -/
theorem singleBitErrorsAreDetected : Obligations.SingleBitErrorsAreDetected := by
  intro s j hv hf hpoly _ _ hdata hj hframe
  rw [← crc8_eq_divideLiteral _ hdata] at hframe
  have hP : s.block.actPoly.getLsbD 8 = true := by rw [hpoly]; decide
  have h0 : s.block.actPoly.getLsbD 0 = true := by rw [hpoly]; decide
  refine ⟨_, exec_of_blockOf (Block.verifyCommand_runs hv hf), ?_⟩
  refine s.block.verifyBody_mismatched_iff.2 (mt (Block.verifyBody_matched_iff_dvd_errors hP hframe).1 ?_)
  rw [bitsPoly_two_pow (n := s.block.chunkSize + 8) hj]
  exact not_dvd_X_pow hP h0 j

/-! ## The channel at its two ends (43_channel.md R98) -/

theorem flips_zero (u : BitVec 16) : flips 0 u = false := by
  simp [flips]

/-- A draw has 16 bits, so T = 65536 is above every one of them. -/
theorem flips_max (u : BitVec 16) : flips 65536 u = true :=
  decide_eq_true u.isLt

theorem corruptLoop_zero_thresh (prbsStep : Word → Word) (i : Nat) (f : BitVec 72) (p : Word) :
    (corruptLoop prbsStep 0 i f p).1 = f := by
  induction i generalizing p with
  | zero => rfl
  | succ i ih =>
    rw [corruptLoop, flips_zero, if_neg Bool.false_ne_true]
    exact ih _

theorem corruptFrame_zero_thresh (prbsStep : Word → Word) {n : Nat} {frame : BitVec 72} (p : Word)
    (h : frame.toNat < 2 ^ n) : (corruptFrame prbsStep 0 n frame p).1 = frame := by
  rw [corruptFrame, corruptLoop_zero_thresh, zextLow_eq_self h]

/-- At T = 65536 the error pattern is all ones. -/
theorem corruptFrame_max_thresh (prbsStep : Word → Word) {n : Nat} {frame : BitVec 72} (p : Word) (hn : n ≤ 72)
    (h : frame.toNat < 2 ^ n) : (corruptFrame prbsStep 65536 n frame p).1.toNat = frame.toNat ^^^ (2 ^ n - 1) := by
  apply Nat.eq_of_testBit_eq
  intro i
  rw [Nat.testBit_xor, Nat.testBit_two_pow_sub_one, BitVec.testBit_toNat, BitVec.testBit_toNat, corruptFrame]
  by_cases hi : i < n
  · rw [corruptLoop_bit _ _ _ _ _ hi hn, flips_max, zextLow_eq_self h, decide_eq_true hi]
  · rw [corruptLoop_above _ _ _ _ _ (Nat.le_of_not_lt hi), zextLow_eq_self h, decide_eq_false hi, Bool.xor_false]

/-- XOR with all ones is the complement. -/
theorem xor_two_pow_sub_one {n x : Nat} (h : x < 2 ^ n) : x ^^^ (2 ^ n - 1) = 2 ^ n - 1 - x := by
  apply Nat.eq_of_testBit_eq
  intro i
  rw [Nat.testBit_xor, Nat.testBit_two_pow_sub_one, Nat.sub_sub, Nat.add_comm 1, Nat.testBit_two_pow_sub_succ h]
  by_cases hi : i < n
  · simp [hi]
  · simp [hi, Nat.testBit_lt_two_pow (lt_of_lt_of_le h (Nat.pow_le_pow_right (by decide) (Nat.le_of_not_lt hi)))]

/-- Settles O56, by the two ends of the channel on a frame without bits above n. -/
theorem channelBoundaryLaws : Obligations.ChannelBoundaryLaws := by
  intro prbsStep s hv hf hc hframe
  have hn : s.block.frameSize ≤ 72 := Nat.add_le_add_right hc 8
  refine ⟨{ s with block := s.block.corruptBody prbsStep }, ?_, fun hT => ?_, fun hT => ?_⟩
  · rw [execWith_corrupt, State.onBlock, Block.corruptCommand_runs prbsStep hv hf]
  · rw [Block.corruptBody_rxFrame, hT]
    exact corruptFrame_zero_thresh prbsStep _ hframe
  · rw [Block.corruptBody_rxFrame, hT, ← xor_two_pow_sub_one hframe]
    exact corruptFrame_max_thresh prbsStep _ hn hframe

/-! ## RUN_CHUNK at the two ends of the channel (44_pipeline.md R104) -/

/-- The frame RUN_CHUNK sends: the chunk in DATA and its check code (R86, R101). -/
def Block.sentFrame (b : Block) : BitVec 72 := b.encodeBody.frameBody.txFrame

theorem Block.sentFrame_lt (b : Block) : b.sentFrame.toNat < 2 ^ b.frameSize :=
  frameOf_toNat_lt _ _ _

theorem Block.sentFrame_toNat (b : Block) : b.sentFrame.toNat = (zextLow b.chunkSize b.data).toNat * 2 ^ 8 +
    (crc8 (zextLow b.chunkSize b.data).toNat b.chunkSize b.actPoly).toNat := by
  rw [Block.sentFrame, Block.frameBody_txFrame, frameOf_toNat]
  simp [Nat.mod_eq_of_lt (zextLow_toNat_lt b.chunkSize b.data)]

theorem Block.runChunkBody_txData (prbsStep : Word → Word) (b : Block) :
    (b.runChunkBody prbsStep).txData = zextLow b.chunkSize b.data := by
  simp [Block.runChunkBody, Block.verifyBody]

theorem Block.runChunkBody_txFrame (prbsStep : Word → Word) (b : Block) :
    (b.runChunkBody prbsStep).txFrame = b.sentFrame := by
  simp [Block.runChunkBody, Block.verifyBody, Block.sentFrame]

/-- The received frame is the sent one after the channel. -/
theorem Block.runChunkBody_rxFrame (prbsStep : Word → Word) (b : Block) : (b.runChunkBody prbsStep).rxFrame =
    (corruptFrame prbsStep b.actPThresh b.frameSize b.sentFrame b.prbsState).1 := by
  simp [Block.runChunkBody, Block.verifyBody, Block.sentFrame]

theorem Block.runChunkBody_rxData (prbsStep : Word → Word) (b : Block) :
    (b.runChunkBody prbsStep).rxData = dataPart b.chunkSize (b.runChunkBody prbsStep).rxFrame := by
  simp [Block.runChunkBody, Block.verifyBody]

/-- RUN_CHUNK reaches MATCH exactly when the channel's error pattern is a multiple of P(x). -/
theorem Block.runChunkBody_matched_iff (prbsStep : Word → Word) {b : Block} (hP : b.actPoly.getLsbD 8 = true)
    {errors : Nat} (hframe : (b.runChunkBody prbsStep).rxFrame.toNat = b.sentFrame.toNat ^^^ errors) :
    (b.runChunkBody prbsStep).fsm = .matched ↔
      bitsPoly 9 b.actPoly.toNat ∣ bitsPoly (b.chunkSize + 8) errors := by
  rw [Block.runChunkBody_rxFrame, Block.sentFrame_toNat] at hframe
  exact Block.verifyBody_matched_iff_dvd_errors (b := b.encodeBody.frameBody.corruptBody prbsStep) hP hframe

/-- A MATCH is counted as one (R107). -/
theorem Block.verifyBody_counts_match {b : Block} (h : b.verifyBody.fsm = .matched) :
    b.verifyBody.matchCount = b.matchCount + 1 ∧ b.verifyBody.mismatchCount = b.mismatchCount := by
  have heq := b.verifyBody_matched_iff.1 h
  simp [Block.verifyBody, heq]

theorem Block.runChunkBody_noiseless (prbsStep : Word → Word) {b : Block} (hT : b.actPThresh = 0) :
    (b.runChunkBody prbsStep).rxFrame = b.sentFrame := by
  rw [Block.runChunkBody_rxFrame, hT, corruptFrame_zero_thresh prbsStep _ b.sentFrame_lt]

/-- Without noise the error pattern is 0, a multiple of every polynomial. -/
theorem Block.runChunkBody_noiseless_matched (prbsStep : Word → Word) {b : Block} (hP : b.actPoly.getLsbD 8 = true)
    (hT : b.actPThresh = 0) : (b.runChunkBody prbsStep).fsm = .matched := by
  have hframe : (b.runChunkBody prbsStep).rxFrame.toNat = b.sentFrame.toNat ^^^ 0 := by
    rw [Block.runChunkBody_noiseless prbsStep hT, Nat.xor_zero]
  refine (Block.runChunkBody_matched_iff prbsStep hP hframe).2 ?_
  simp [bitsPoly]

theorem Block.dataPart_sentFrame (b : Block) : dataPart b.chunkSize b.sentFrame = zextLow b.chunkSize b.data := by
  have hcheck := (crc8 (zextLow b.chunkSize b.data).toNat b.chunkSize b.actPoly).isLt
  apply BitVec.eq_of_toNat_eq
  calc (dataPart b.chunkSize b.sentFrame).toNat
      = (zextLow b.chunkSize b.data).toNat % 2 ^ b.chunkSize := by
        rw [dataPart_toNat, Block.sentFrame_toNat]
        congr 1
        omega
    _ = (zextLow b.chunkSize b.data).toNat := Nat.mod_eq_of_lt (zextLow_toNat_lt _ _)

theorem execWith_runChunk_runs (prbsStep : Word → Word) {s : State} (hv : s.block.cfgValid = true)
    (hf : s.block.fsm ∈ [Fsm.idle, .matched, .mismatched]) :
    execWith prbsStep .runChunk s = .next { s with block := s.block.runChunkBody prbsStep } := by
  rw [execWith_runChunk, State.onBlock, Block.runChunkCommand_runs prbsStep hv hf]

/-- Settles O57: T = 0 leaves the frame, so the error pattern is 0. -/
theorem noiselessChunkAlwaysMatches : Obligations.NoiselessChunkAlwaysMatches := by
  intro s hv hf hlegal hT
  have hmatched (prbsStep : Word → Word) := Block.runChunkBody_noiseless_matched prbsStep hlegal.poly_getLsbD hT
  refine ⟨fun prbsStep => ⟨_, execWith_runChunk_runs prbsStep hv hf, hmatched prbsStep⟩, _,
    exec_of_blockOf (Block.runChunkCommand_runs xorshiftStep hv hf), hmatched xorshiftStep, ?_, ?_,
    Block.verifyBody_counts_match (hmatched xorshiftStep)⟩
  · rw [Block.runChunkBody_noiseless xorshiftStep hT, Block.runChunkBody_txFrame]
  · rw [Block.runChunkBody_rxData, Block.runChunkBody_noiseless xorshiftStep hT, Block.dataPart_sentFrame,
      Block.runChunkBody_txData]

/-- The all-ones pattern of every frame length from 10 to 72 is no multiple of 0x107 (R88 (d)); evaluated. -/
theorem crc8_all_ones_ne_zero : ∀ n < 73, 10 ≤ n → crc8 (2 ^ n - 1) n 0x107 ≠ 0 := by
  decide +kernel

theorem Block.runChunkBody_complemented (prbsStep : Word → Word) {b : Block} (hT : b.actPThresh = 65536)
    (hn : b.frameSize ≤ 72) :
    (b.runChunkBody prbsStep).rxFrame.toNat = b.sentFrame.toNat ^^^ (2 ^ b.frameSize - 1) := by
  rw [Block.runChunkBody_rxFrame, hT, corruptFrame_max_thresh prbsStep _ hn b.sentFrame_lt]

theorem Block.runChunkBody_complemented_mismatched (prbsStep : Word → Word) {b : Block} (hpoly : b.actPoly = 0x107)
    (hmin : 2 ≤ b.chunkSize) (hmax : b.chunkSize ≤ 64) (hT : b.actPThresh = 65536) :
    (b.runChunkBody prbsStep).fsm = .mismatched := by
  have hP : b.actPoly.getLsbD 8 = true := by rw [hpoly]; decide
  have h0 : b.actPoly.getLsbD 0 = true := by rw [hpoly]; decide
  have hframe := Block.runChunkBody_complemented prbsStep hT (Nat.add_le_add_right hmax 8)
  refine (Block.verifyBody_mismatched_iff _).2 (mt (Block.runChunkBody_matched_iff prbsStep hP hframe).1 ?_)
  rw [← crc8_eq_zero_iff hP h0, hpoly]
  exact crc8_all_ones_ne_zero (b.chunkSize + 8) (by omega) (by omega)

/-- Settles O58: T = 65536 makes the error pattern all ones (`crc8_all_ones_ne_zero`). -/
theorem complementingChannelAlwaysMismatches : Obligations.ComplementingChannelAlwaysMismatches := by
  intro s hv hf hpoly hmin hmax hT
  have hmismatched (prbsStep : Word → Word) :=
    Block.runChunkBody_complemented_mismatched prbsStep hpoly hmin hmax hT
  refine ⟨fun prbsStep => ⟨_, execWith_runChunk_runs prbsStep hv hf, hmismatched prbsStep⟩, _,
    exec_of_blockOf (Block.runChunkCommand_runs xorshiftStep hv hf), hmismatched xorshiftStep, ?_⟩
  rw [Block.runChunkBody_complemented xorshiftStep hT (Nat.add_le_add_right hmax 8), Block.runChunkBody_txFrame]
  exact xor_two_pow_sub_one s.block.sentFrame_lt

/-! ## The partition of a bit string (41_framer.md R79) -/

/-- Window `j` exists exactly when it starts before the end of the string. -/
theorem lt_windowCount_iff {c : Nat} (hc : 1 ≤ c) (L j : Nat) : j < (L + c - 1) / c ↔ j * c < L := by
  rw [Nat.lt_iff_add_one_le, Nat.le_div_iff_mul_le hc, Nat.succ_mul]
  omega

/-- The first `k` windows are the first `k * c` bits. -/
theorem flatten_windows (c : Nat) (bits : List Bool) (k : Nat) :
    ((List.range k).map fun j => (bits.drop (j * c)).take c).flatten = bits.take (k * c) := by
  induction k with
  | zero => simp
  | succ k ih => simp [List.range_succ, ih, Nat.succ_mul, List.take_add]

theorem splitBits_flatten {c : Nat} (hc : 1 ≤ c) (bits : List Bool) : (splitBits c bits).flatten = bits := by
  have hall := (lt_windowCount_iff hc bits.length ((bits.length + c - 1) / c)).not.1 (lt_irrefl _)
  rw [splitBits, flatten_windows, List.take_of_length_le (Nat.le_of_not_lt hall)]

/-- All windows but the last are the windows before which another one follows. -/
theorem splitBits_dropLast (c : Nat) (bits : List Bool) : (splitBits c bits).dropLast =
    (List.range ((bits.length + c - 1) / c - 1)).map fun j => (bits.drop (j * c)).take c := by
  rw [splitBits, ← List.map_dropLast, List.dropLast_eq_take, List.length_range, List.take_range,
    min_eq_left (Nat.sub_le _ _)]

/-- Settles O59: the windows follow each other without a gap, and `lt_windowCount_iff` bounds where each starts. -/
theorem partitionIsTheSourcesSplit : Obligations.PartitionIsTheSourcesSplit := by
  intro c bits hc
  refine ⟨splitBits_flatten hc bits, by simp [splitBits], fun w hw => ?_, fun w hw => ?_⟩
  · obtain ⟨j, hj, rfl⟩ := List.mem_map.1 hw
    have hstart := (lt_windowCount_iff hc bits.length j).1 (List.mem_range.1 hj)
    rw [List.length_take, List.length_drop]
    omega
  · rw [splitBits_dropLast] at hw
    obtain ⟨j, hj, rfl⟩ := List.mem_map.1 hw
    have hj' := List.mem_range.1 hj
    have hnext := (lt_windowCount_iff hc bits.length (j + 1)).1 (by omega)
    rw [Nat.succ_mul] at hnext
    rw [List.length_take, List.length_drop]
    omega

end Sys2Proof.Machine
